-- ==== Sys2Proof/Word.lean ====
section
/-! DEFINITION. The machine's two word types.
The data width is 8 bits and the address width 16 bits (00_scope.md R6); arithmetic on either wraps
(R7), which is what `BitVec` addition and subtraction do. -/

namespace Sys2Proof

/-- A byte: the width of A, X, Y, SP and of a memory cell (R6). -/
abbrev Byte := BitVec 8

/-- A 16-bit word: the width of `pc` and of an address (R6). -/
abbrev Word := BitVec 16

end Sys2Proof
end

