-- ==== Sys2Proof/Config.lean ====
section
/-! DEFINITION. The named parameters of the hardware (00_scope.md R8) as plain data.
Every value of every parameter is modelled.
`step` has no argument but the state, so the parameters travel in `State.params`, and `P_WORD_ORDER`
in `State.wordOrder` (10_state.md R33); no step changes them (log 1). -/

namespace Sys2Proof

/-- `P_WORD_ORDER`: the order of the two bytes of a word (R8, R45; decision D2, left OPEN). -/
inductive WordOrder where
  | little
  | big
  deriving DecidableEq, Repr

/-- `P_OPCODE_SET`: which opcodes the decoder recognizes (R66, R67; D1). -/
inductive OpcodeSet where
  | documented151
  | minimum19
  deriving DecidableEq, Repr

/-- `P_DECIMAL`: what ADC and SBC do with D = 1 (R86; D3). -/
inductive DecimalMode where
  | refuse
  | binary
  | nmosBcd
  deriving DecidableEq, Repr

/-- `P_SHORTFALL`: an opcode dispatched with less budget than its base cost (R82; D4). -/
inductive Shortfall where
  | complete
  | fault
  deriving DecidableEq, Repr

/-- `P_ZP_WRAP`: how a zero-page indexed address wraps (R96, R109; D7). -/
inductive ZpWrap where
  | page
  | linear
  deriving DecidableEq, Repr

/-- `P_ADDR_OVERFLOW`: a 16-bit address sum above 0xFFFF (R97; D8). -/
inductive AddrOverflow where
  | wrap
  | fault
  deriving DecidableEq, Repr

/-- `INIT`: the values the caller gives A, X, Y and five flags at reset (R8, R240; D16). -/
structure Init where
  a : Byte
  x : Byte
  y : Byte
  c : Bool
  z : Bool
  b : Bool
  v : Bool
  n : Bool
  deriving DecidableEq, Repr

/-- The launch parameters of R8, `P_WORD_ORDER` apart. -/
structure Params where
  opcodeSet    : OpcodeSet
  decimal      : DecimalMode
  shortfall    : Shortfall
  zpWrap       : ZpWrap
  addrOverflow : AddrOverflow
  init         : Init
  deriving DecidableEq, Repr

/-- `INIT` all zero, R8's default (log 4). -/
def Init.zero : Init :=
  { a := 0, x := 0, y := 0, c := false, z := false, b := false, v := false, n := false }

/-- The default column of R8 (log 3). -/
def Params.default : Params :=
  { opcodeSet := .documented151, decimal := .refuse, shortfall := .complete, zpWrap := .page,
    addrOverflow := .wrap, init := Init.zero }

end Sys2Proof
end

