-- ==== Sys2Proof/Syntax.lean ====
section
/-! DEFINITION. The instructions as syntax: the mnemonics, the addressing modes, the operand forms, and
`Instr` with one constructor for each row of spec/opcode_table.json (30_encoding.md R65).
A constructor's argument is the operand the instruction carries: nothing in format F1, the byte `b`
(for a branch the displacement `off`) in F2, the operand word `w` in F3 (R61), already assembled
from its two bytes in `word_order` (R62). -/

namespace Sys2Proof

/-- The 56 mnemonics (R65, R75). -/
inductive Mnemonic where
  | adc | sbc | cmp | cpx | cpy | inc | dec | inx | iny | dex | dey | lda | ldx | ldy
  | sta | stx | sty | and | ora | eor | bit | asl | lsr | rol | ror | jmp | jsr | rts
  | bcc | bcs | beq | bmi | bne | bpl | bvc | bvs | pha | php | pla | plp | tax | tay
  | txa | tya | tsx | txs | clc | sec | cli | sei | cld | sed | clv | nop | brk | rti
  deriving DecidableEq, Repr

/-- The thirteen addressing modes by their tags (41_addressing_modes.md R95). -/
inductive Mode where
  | imp | acc | imm | zp | zpx | zpy | abs | absx | absy | ind | indx | indy | rel
  deriving DecidableEq, Repr

/-- An operand form with the bytes it carries: the modes in which an instruction reads or writes one
byte of data (R99 to R107). -/
inductive Operand where
  | acc
  | imm  (b : Byte)
  | zp   (b : Byte)
  | zpx  (b : Byte)
  | zpy  (b : Byte)
  | abs  (w : Word)
  | absx (w : Word)
  | absy (w : Word)
  | indx (b : Byte)
  | indy (b : Byte)
  deriving DecidableEq, Repr

/-- A decoder entry (40_execute_loop.md R75): the mnemonic, the mode, the base cycle cost, and whether a page cross
adds a cycle. -/
structure Entry where
  mnemonic : Mnemonic
  mode     : Mode
  base     : Nat
  pen      : Bool
  deriving DecidableEq, Repr

/-- One constructor per row of spec/opcode_table.json. -/
inductive Instr where
  /-- ADC immediate, opcode 0x69 (R135). -/
  | adcImm (b : Byte)
  /-- ADC zero page, opcode 0x65 (R135). -/
  | adcZp (b : Byte)
  /-- ADC zero page,X, opcode 0x75 (R135). -/
  | adcZpX (b : Byte)
  /-- ADC absolute, opcode 0x6D (R135). -/
  | adcAbs (w : Word)
  /-- ADC absolute,X, opcode 0x7D (R135). -/
  | adcAbsX (w : Word)
  /-- ADC absolute,Y, opcode 0x79 (R135). -/
  | adcAbsY (w : Word)
  /-- ADC (zero page,X), opcode 0x61 (R135). -/
  | adcIndX (b : Byte)
  /-- ADC (zero page),Y, opcode 0x71 (R135). -/
  | adcIndY (b : Byte)
  /-- SBC immediate, opcode 0xE9 (R136). -/
  | sbcImm (b : Byte)
  /-- SBC zero page, opcode 0xE5 (R136). -/
  | sbcZp (b : Byte)
  /-- SBC zero page,X, opcode 0xF5 (R136). -/
  | sbcZpX (b : Byte)
  /-- SBC absolute, opcode 0xED (R136). -/
  | sbcAbs (w : Word)
  /-- SBC absolute,X, opcode 0xFD (R136). -/
  | sbcAbsX (w : Word)
  /-- SBC absolute,Y, opcode 0xF9 (R136). -/
  | sbcAbsY (w : Word)
  /-- SBC (zero page,X), opcode 0xE1 (R136). -/
  | sbcIndX (b : Byte)
  /-- SBC (zero page),Y, opcode 0xF1 (R136). -/
  | sbcIndY (b : Byte)
  /-- CMP immediate, opcode 0xC9 (R137). -/
  | cmpImm (b : Byte)
  /-- CMP zero page, opcode 0xC5 (R137). -/
  | cmpZp (b : Byte)
  /-- CMP zero page,X, opcode 0xD5 (R137). -/
  | cmpZpX (b : Byte)
  /-- CMP absolute, opcode 0xCD (R137). -/
  | cmpAbs (w : Word)
  /-- CMP absolute,X, opcode 0xDD (R137). -/
  | cmpAbsX (w : Word)
  /-- CMP absolute,Y, opcode 0xD9 (R137). -/
  | cmpAbsY (w : Word)
  /-- CMP (zero page,X), opcode 0xC1 (R137). -/
  | cmpIndX (b : Byte)
  /-- CMP (zero page),Y, opcode 0xD1 (R137). -/
  | cmpIndY (b : Byte)
  /-- CPX immediate, opcode 0xE0 (R138). -/
  | cpxImm (b : Byte)
  /-- CPX zero page, opcode 0xE4 (R138). -/
  | cpxZp (b : Byte)
  /-- CPX absolute, opcode 0xEC (R138). -/
  | cpxAbs (w : Word)
  /-- CPY immediate, opcode 0xC0 (R139). -/
  | cpyImm (b : Byte)
  /-- CPY zero page, opcode 0xC4 (R139). -/
  | cpyZp (b : Byte)
  /-- CPY absolute, opcode 0xCC (R139). -/
  | cpyAbs (w : Word)
  /-- INC zero page, opcode 0xE6 (R140). -/
  | incZp (b : Byte)
  /-- INC zero page,X, opcode 0xF6 (R140). -/
  | incZpX (b : Byte)
  /-- INC absolute, opcode 0xEE (R140). -/
  | incAbs (w : Word)
  /-- INC absolute,X, opcode 0xFE (R140). -/
  | incAbsX (w : Word)
  /-- DEC zero page, opcode 0xC6 (R141). -/
  | decZp (b : Byte)
  /-- DEC zero page,X, opcode 0xD6 (R141). -/
  | decZpX (b : Byte)
  /-- DEC absolute, opcode 0xCE (R141). -/
  | decAbs (w : Word)
  /-- DEC absolute,X, opcode 0xDE (R141). -/
  | decAbsX (w : Word)
  /-- INX implied, opcode 0xE8 (R142). -/
  | inx
  /-- INY implied, opcode 0xC8 (R143). -/
  | iny
  /-- DEX implied, opcode 0xCA (R144). -/
  | dex
  /-- DEY implied, opcode 0x88 (R145). -/
  | dey
  /-- LDA immediate, opcode 0xA9 (R170). -/
  | ldaImm (b : Byte)
  /-- LDA zero page, opcode 0xA5 (R170). -/
  | ldaZp (b : Byte)
  /-- LDA zero page,X, opcode 0xB5 (R170). -/
  | ldaZpX (b : Byte)
  /-- LDA absolute, opcode 0xAD (R170). -/
  | ldaAbs (w : Word)
  /-- LDA absolute,X, opcode 0xBD (R170). -/
  | ldaAbsX (w : Word)
  /-- LDA absolute,Y, opcode 0xB9 (R170). -/
  | ldaAbsY (w : Word)
  /-- LDA (zero page,X), opcode 0xA1 (R170). -/
  | ldaIndX (b : Byte)
  /-- LDA (zero page),Y, opcode 0xB1 (R170). -/
  | ldaIndY (b : Byte)
  /-- LDX immediate, opcode 0xA2 (R171). -/
  | ldxImm (b : Byte)
  /-- LDX zero page, opcode 0xA6 (R171). -/
  | ldxZp (b : Byte)
  /-- LDX zero page,Y, opcode 0xB6 (R171). -/
  | ldxZpY (b : Byte)
  /-- LDX absolute, opcode 0xAE (R171). -/
  | ldxAbs (w : Word)
  /-- LDX absolute,Y, opcode 0xBE (R171). -/
  | ldxAbsY (w : Word)
  /-- LDY immediate, opcode 0xA0 (R172). -/
  | ldyImm (b : Byte)
  /-- LDY zero page, opcode 0xA4 (R172). -/
  | ldyZp (b : Byte)
  /-- LDY zero page,X, opcode 0xB4 (R172). -/
  | ldyZpX (b : Byte)
  /-- LDY absolute, opcode 0xAC (R172). -/
  | ldyAbs (w : Word)
  /-- LDY absolute,X, opcode 0xBC (R172). -/
  | ldyAbsX (w : Word)
  /-- STA zero page, opcode 0x85 (R173). -/
  | staZp (b : Byte)
  /-- STA zero page,X, opcode 0x95 (R173). -/
  | staZpX (b : Byte)
  /-- STA absolute, opcode 0x8D (R173). -/
  | staAbs (w : Word)
  /-- STA absolute,X, opcode 0x9D (R173). -/
  | staAbsX (w : Word)
  /-- STA absolute,Y, opcode 0x99 (R173). -/
  | staAbsY (w : Word)
  /-- STA (zero page,X), opcode 0x81 (R173). -/
  | staIndX (b : Byte)
  /-- STA (zero page),Y, opcode 0x91 (R173). -/
  | staIndY (b : Byte)
  /-- STX zero page, opcode 0x86 (R174). -/
  | stxZp (b : Byte)
  /-- STX zero page,Y, opcode 0x96 (R174). -/
  | stxZpY (b : Byte)
  /-- STX absolute, opcode 0x8E (R174). -/
  | stxAbs (w : Word)
  /-- STY zero page, opcode 0x84 (R175). -/
  | styZp (b : Byte)
  /-- STY zero page,X, opcode 0x94 (R175). -/
  | styZpX (b : Byte)
  /-- STY absolute, opcode 0x8C (R175). -/
  | styAbs (w : Word)
  /-- AND immediate, opcode 0x29 (R180). -/
  | andImm (b : Byte)
  /-- AND zero page, opcode 0x25 (R180). -/
  | andZp (b : Byte)
  /-- AND zero page,X, opcode 0x35 (R180). -/
  | andZpX (b : Byte)
  /-- AND absolute, opcode 0x2D (R180). -/
  | andAbs (w : Word)
  /-- AND absolute,X, opcode 0x3D (R180). -/
  | andAbsX (w : Word)
  /-- AND absolute,Y, opcode 0x39 (R180). -/
  | andAbsY (w : Word)
  /-- AND (zero page,X), opcode 0x21 (R180). -/
  | andIndX (b : Byte)
  /-- AND (zero page),Y, opcode 0x31 (R180). -/
  | andIndY (b : Byte)
  /-- ORA immediate, opcode 0x09 (R181). -/
  | oraImm (b : Byte)
  /-- ORA zero page, opcode 0x05 (R181). -/
  | oraZp (b : Byte)
  /-- ORA zero page,X, opcode 0x15 (R181). -/
  | oraZpX (b : Byte)
  /-- ORA absolute, opcode 0x0D (R181). -/
  | oraAbs (w : Word)
  /-- ORA absolute,X, opcode 0x1D (R181). -/
  | oraAbsX (w : Word)
  /-- ORA absolute,Y, opcode 0x19 (R181). -/
  | oraAbsY (w : Word)
  /-- ORA (zero page,X), opcode 0x01 (R181). -/
  | oraIndX (b : Byte)
  /-- ORA (zero page),Y, opcode 0x11 (R181). -/
  | oraIndY (b : Byte)
  /-- EOR immediate, opcode 0x49 (R182). -/
  | eorImm (b : Byte)
  /-- EOR zero page, opcode 0x45 (R182). -/
  | eorZp (b : Byte)
  /-- EOR zero page,X, opcode 0x55 (R182). -/
  | eorZpX (b : Byte)
  /-- EOR absolute, opcode 0x4D (R182). -/
  | eorAbs (w : Word)
  /-- EOR absolute,X, opcode 0x5D (R182). -/
  | eorAbsX (w : Word)
  /-- EOR absolute,Y, opcode 0x59 (R182). -/
  | eorAbsY (w : Word)
  /-- EOR (zero page,X), opcode 0x41 (R182). -/
  | eorIndX (b : Byte)
  /-- EOR (zero page),Y, opcode 0x51 (R182). -/
  | eorIndY (b : Byte)
  /-- BIT zero page, opcode 0x24 (R183). -/
  | bitZp (b : Byte)
  /-- BIT absolute, opcode 0x2C (R183). -/
  | bitAbs (w : Word)
  /-- ASL accumulator, opcode 0x0A (R184). -/
  | aslAcc
  /-- ASL zero page, opcode 0x06 (R184). -/
  | aslZp (b : Byte)
  /-- ASL zero page,X, opcode 0x16 (R184). -/
  | aslZpX (b : Byte)
  /-- ASL absolute, opcode 0x0E (R184). -/
  | aslAbs (w : Word)
  /-- ASL absolute,X, opcode 0x1E (R184). -/
  | aslAbsX (w : Word)
  /-- LSR accumulator, opcode 0x4A (R185). -/
  | lsrAcc
  /-- LSR zero page, opcode 0x46 (R185). -/
  | lsrZp (b : Byte)
  /-- LSR zero page,X, opcode 0x56 (R185). -/
  | lsrZpX (b : Byte)
  /-- LSR absolute, opcode 0x4E (R185). -/
  | lsrAbs (w : Word)
  /-- LSR absolute,X, opcode 0x5E (R185). -/
  | lsrAbsX (w : Word)
  /-- ROL accumulator, opcode 0x2A (R186). -/
  | rolAcc
  /-- ROL zero page, opcode 0x26 (R186). -/
  | rolZp (b : Byte)
  /-- ROL zero page,X, opcode 0x36 (R186). -/
  | rolZpX (b : Byte)
  /-- ROL absolute, opcode 0x2E (R186). -/
  | rolAbs (w : Word)
  /-- ROL absolute,X, opcode 0x3E (R186). -/
  | rolAbsX (w : Word)
  /-- ROR accumulator, opcode 0x6A (R187). -/
  | rorAcc
  /-- ROR zero page, opcode 0x66 (R187). -/
  | rorZp (b : Byte)
  /-- ROR zero page,X, opcode 0x76 (R187). -/
  | rorZpX (b : Byte)
  /-- ROR absolute, opcode 0x6E (R187). -/
  | rorAbs (w : Word)
  /-- ROR absolute,X, opcode 0x7E (R187). -/
  | rorAbsX (w : Word)
  /-- JMP absolute, opcode 0x4C (R150). -/
  | jmpAbs (w : Word)
  /-- JMP indirect, opcode 0x6C (R151). -/
  | jmpInd (w : Word)
  /-- JSR absolute, opcode 0x20 (R152). -/
  | jsr (w : Word)
  /-- RTS implied, opcode 0x60 (R153). -/
  | rts
  /-- BCC relative, opcode 0x90 (R155). -/
  | bcc (off : Byte)
  /-- BCS relative, opcode 0xB0 (R156). -/
  | bcs (off : Byte)
  /-- BEQ relative, opcode 0xF0 (R157). -/
  | beq (off : Byte)
  /-- BMI relative, opcode 0x30 (R158). -/
  | bmi (off : Byte)
  /-- BNE relative, opcode 0xD0 (R159). -/
  | bne (off : Byte)
  /-- BPL relative, opcode 0x10 (R160). -/
  | bpl (off : Byte)
  /-- BVC relative, opcode 0x50 (R161). -/
  | bvc (off : Byte)
  /-- BVS relative, opcode 0x70 (R162). -/
  | bvs (off : Byte)
  /-- PHA implied, opcode 0x48 (R190). -/
  | pha
  /-- PHP implied, opcode 0x08 (R191). -/
  | php
  /-- PLA implied, opcode 0x68 (R192). -/
  | pla
  /-- PLP implied, opcode 0x28 (R193). -/
  | plp
  /-- TAX implied, opcode 0xAA (R194). -/
  | tax
  /-- TAY implied, opcode 0xA8 (R195). -/
  | tay
  /-- TXA implied, opcode 0x8A (R196). -/
  | txa
  /-- TYA implied, opcode 0x98 (R197). -/
  | tya
  /-- TSX implied, opcode 0xBA (R198). -/
  | tsx
  /-- TXS implied, opcode 0x9A (R199). -/
  | txs
  /-- CLC implied, opcode 0x18 (R200). -/
  | clc
  /-- SEC implied, opcode 0x38 (R201). -/
  | sec
  /-- CLI implied, opcode 0x58 (R202). -/
  | cli
  /-- SEI implied, opcode 0x78 (R203). -/
  | sei
  /-- CLD implied, opcode 0xD8 (R204). -/
  | cld
  /-- SED implied, opcode 0xF8 (R205). -/
  | sed
  /-- CLV implied, opcode 0xB8 (R206). -/
  | clv
  /-- NOP implied, opcode 0xEA (R207). -/
  | nop
  /-- BRK implied, opcode 0x00 (R215). -/
  | brk
  /-- RTI implied, opcode 0x40 (R216). -/
  | rti
  deriving DecidableEq, Repr

/-- The mnemonic of an instruction (R65). -/
def Instr.mnemonic : Instr → Mnemonic
  | .adcImm _ | .adcZp _ | .adcZpX _ | .adcAbs _ | .adcAbsX _ | .adcAbsY _ | .adcIndX _ | .adcIndY _ => .adc
  | .sbcImm _ | .sbcZp _ | .sbcZpX _ | .sbcAbs _ | .sbcAbsX _ | .sbcAbsY _ | .sbcIndX _ | .sbcIndY _ => .sbc
  | .cmpImm _ | .cmpZp _ | .cmpZpX _ | .cmpAbs _ | .cmpAbsX _ | .cmpAbsY _ | .cmpIndX _ | .cmpIndY _ => .cmp
  | .cpxImm _ | .cpxZp _ | .cpxAbs _ => .cpx
  | .cpyImm _ | .cpyZp _ | .cpyAbs _ => .cpy
  | .incZp _ | .incZpX _ | .incAbs _ | .incAbsX _ => .inc
  | .decZp _ | .decZpX _ | .decAbs _ | .decAbsX _ => .dec
  | .inx => .inx
  | .iny => .iny
  | .dex => .dex
  | .dey => .dey
  | .ldaImm _ | .ldaZp _ | .ldaZpX _ | .ldaAbs _ | .ldaAbsX _ | .ldaAbsY _ | .ldaIndX _ | .ldaIndY _ => .lda
  | .ldxImm _ | .ldxZp _ | .ldxZpY _ | .ldxAbs _ | .ldxAbsY _ => .ldx
  | .ldyImm _ | .ldyZp _ | .ldyZpX _ | .ldyAbs _ | .ldyAbsX _ => .ldy
  | .staZp _ | .staZpX _ | .staAbs _ | .staAbsX _ | .staAbsY _ | .staIndX _ | .staIndY _ => .sta
  | .stxZp _ | .stxZpY _ | .stxAbs _ => .stx
  | .styZp _ | .styZpX _ | .styAbs _ => .sty
  | .andImm _ | .andZp _ | .andZpX _ | .andAbs _ | .andAbsX _ | .andAbsY _ | .andIndX _ | .andIndY _ => .and
  | .oraImm _ | .oraZp _ | .oraZpX _ | .oraAbs _ | .oraAbsX _ | .oraAbsY _ | .oraIndX _ | .oraIndY _ => .ora
  | .eorImm _ | .eorZp _ | .eorZpX _ | .eorAbs _ | .eorAbsX _ | .eorAbsY _ | .eorIndX _ | .eorIndY _ => .eor
  | .bitZp _ | .bitAbs _ => .bit
  | .aslAcc | .aslZp _ | .aslZpX _ | .aslAbs _ | .aslAbsX _ => .asl
  | .lsrAcc | .lsrZp _ | .lsrZpX _ | .lsrAbs _ | .lsrAbsX _ => .lsr
  | .rolAcc | .rolZp _ | .rolZpX _ | .rolAbs _ | .rolAbsX _ => .rol
  | .rorAcc | .rorZp _ | .rorZpX _ | .rorAbs _ | .rorAbsX _ => .ror
  | .jmpAbs _ | .jmpInd _ => .jmp
  | .jsr _ => .jsr
  | .rts => .rts
  | .bcc _ => .bcc
  | .bcs _ => .bcs
  | .beq _ => .beq
  | .bmi _ => .bmi
  | .bne _ => .bne
  | .bpl _ => .bpl
  | .bvc _ => .bvc
  | .bvs _ => .bvs
  | .pha => .pha
  | .php => .php
  | .pla => .pla
  | .plp => .plp
  | .tax => .tax
  | .tay => .tay
  | .txa => .txa
  | .tya => .tya
  | .tsx => .tsx
  | .txs => .txs
  | .clc => .clc
  | .sec => .sec
  | .cli => .cli
  | .sei => .sei
  | .cld => .cld
  | .sed => .sed
  | .clv => .clv
  | .nop => .nop
  | .brk => .brk
  | .rti => .rti

end Sys2Proof
end

