-- ==== Sys2Proof/WellFormed.lean ====
section
/-! DEFINITION. Which instructions are instructions of the machine.
Every value of every operand byte is legal (30_encoding.md R69), and the operand types are exactly as
wide as the encoding's, so the one check is that the machine's opcode set has the instruction: all of
them under `documented151`, and under `minimum19` those of R67, which are all the modes of
Add-with-Carry, Jump, Jump-to-Subroutine and Load-Accumulator. -/

namespace Sys2Proof

/-- The mnemonics of the source's minimum set (R67), each "in all its modes". -/
def Mnemonic.inMinimum (m : Mnemonic) : Bool :=
  m == .adc || m == .jmp || m == .jsr || m == .lda

/-- An instruction is well-formed under `P_OPCODE_SET` when the set has it (R66, R67). -/
def Instr.wellFormed (set : OpcodeSet) (i : Instr) : Bool :=
  match set with
  | .documented151 => true
  | .minimum19     => i.mnemonic.inMinimum

end Sys2Proof
end

