-- ==== Sys2Proof/Decode.lean ====
section
/-! DEFINITION. The decoder (30_encoding.md R60 to R70), total on any bytes and rejecting by name, and after it the encoder,
written from the same table (R65).
Byte 0 alone selects the operation and the mode (R60); the operand bytes follow it (R61), and the
operand word of format F3 is assembled in `word_order` (R62). -/

namespace Sys2Proof

/-- Two bytes in address order as one 16-bit value (20_memory.md R46, R49): under `little` the first
byte is the low one, under `big` the high one. -/
def joinBytes (order : WordOrder) (b0 b1 : Byte) : Word :=
  match order with
  | .little => b1 ++ b0
  | .big    => b0 ++ b1

/-- Bits 15 to 8 of a word (`w[15:8]`, R9). -/
def hiByte (w : Word) : Byte := (w >>> 8).setWidth 8

/-- Bits 7 to 0 of a word (`w[7:0]`, R9). -/
def loByte (w : Word) : Byte := w.setWidth 8

/-- The two bytes of a word in address order: what `joinBytes` assembles again. -/
def splitWord (order : WordOrder) (w : Word) : List Byte :=
  match order with
  | .little => [loByte w, hiByte w]
  | .big    => [hiByte w, loByte w]

/-- The length in bytes of an instruction of the mode (R61, R95). -/
def Mode.length : Mode → Nat
  | .imp | .acc => 1
  | .imm | .zp | .zpx | .zpy | .indx | .indy | .rel => 2
  | .abs | .absx | .absy | .ind => 3

/-- What the decoder answers for bytes it gives no instruction. -/
inductive DecodeError where
  /-- The opcode has no entry under `P_OPCODE_SET` (R66). -/
  | unrecognized (op : Byte)
  /-- The list ends inside the instruction; memory never does, so no step meets this. -/
  | truncated
  deriving DecidableEq, Repr

/-- The three instruction formats (R61): an opcode selects one, with the instruction it makes of its
operand. -/
inductive Format where
  | f1 (i : Instr)
  | f2 (f : Byte → Instr)
  | f3 (f : Word → Instr)

/-! ## The opcode map, R65: one definition per row, selected by the high nibble; the argument is the
column, the low nibble. -/

/-- Row 0x of R65. -/
def opcodeRow0 : Nat → Option Format
  | 0x0 => some (.f1 .brk)
  | 0x1 => some (.f2 .oraIndX)
  | 0x5 => some (.f2 .oraZp)
  | 0x6 => some (.f2 .aslZp)
  | 0x8 => some (.f1 .php)
  | 0x9 => some (.f2 .oraImm)
  | 0xA => some (.f1 .aslAcc)
  | 0xD => some (.f3 .oraAbs)
  | 0xE => some (.f3 .aslAbs)
  | _ => none

/-- Row 1x of R65. -/
def opcodeRow1 : Nat → Option Format
  | 0x0 => some (.f2 .bpl)
  | 0x1 => some (.f2 .oraIndY)
  | 0x5 => some (.f2 .oraZpX)
  | 0x6 => some (.f2 .aslZpX)
  | 0x8 => some (.f1 .clc)
  | 0x9 => some (.f3 .oraAbsY)
  | 0xD => some (.f3 .oraAbsX)
  | 0xE => some (.f3 .aslAbsX)
  | _ => none

/-- Row 2x of R65. -/
def opcodeRow2 : Nat → Option Format
  | 0x0 => some (.f3 .jsr)
  | 0x1 => some (.f2 .andIndX)
  | 0x4 => some (.f2 .bitZp)
  | 0x5 => some (.f2 .andZp)
  | 0x6 => some (.f2 .rolZp)
  | 0x8 => some (.f1 .plp)
  | 0x9 => some (.f2 .andImm)
  | 0xA => some (.f1 .rolAcc)
  | 0xC => some (.f3 .bitAbs)
  | 0xD => some (.f3 .andAbs)
  | 0xE => some (.f3 .rolAbs)
  | _ => none

/-- Row 3x of R65. -/
def opcodeRow3 : Nat → Option Format
  | 0x0 => some (.f2 .bmi)
  | 0x1 => some (.f2 .andIndY)
  | 0x5 => some (.f2 .andZpX)
  | 0x6 => some (.f2 .rolZpX)
  | 0x8 => some (.f1 .sec)
  | 0x9 => some (.f3 .andAbsY)
  | 0xD => some (.f3 .andAbsX)
  | 0xE => some (.f3 .rolAbsX)
  | _ => none

/-- Row 4x of R65. -/
def opcodeRow4 : Nat → Option Format
  | 0x0 => some (.f1 .rti)
  | 0x1 => some (.f2 .eorIndX)
  | 0x5 => some (.f2 .eorZp)
  | 0x6 => some (.f2 .lsrZp)
  | 0x8 => some (.f1 .pha)
  | 0x9 => some (.f2 .eorImm)
  | 0xA => some (.f1 .lsrAcc)
  | 0xC => some (.f3 .jmpAbs)
  | 0xD => some (.f3 .eorAbs)
  | 0xE => some (.f3 .lsrAbs)
  | _ => none

/-- Row 5x of R65. -/
def opcodeRow5 : Nat → Option Format
  | 0x0 => some (.f2 .bvc)
  | 0x1 => some (.f2 .eorIndY)
  | 0x5 => some (.f2 .eorZpX)
  | 0x6 => some (.f2 .lsrZpX)
  | 0x8 => some (.f1 .cli)
  | 0x9 => some (.f3 .eorAbsY)
  | 0xD => some (.f3 .eorAbsX)
  | 0xE => some (.f3 .lsrAbsX)
  | _ => none

/-- Row 6x of R65. -/
def opcodeRow6 : Nat → Option Format
  | 0x0 => some (.f1 .rts)
  | 0x1 => some (.f2 .adcIndX)
  | 0x5 => some (.f2 .adcZp)
  | 0x6 => some (.f2 .rorZp)
  | 0x8 => some (.f1 .pla)
  | 0x9 => some (.f2 .adcImm)
  | 0xA => some (.f1 .rorAcc)
  | 0xC => some (.f3 .jmpInd)
  | 0xD => some (.f3 .adcAbs)
  | 0xE => some (.f3 .rorAbs)
  | _ => none

/-- Row 7x of R65. -/
def opcodeRow7 : Nat → Option Format
  | 0x0 => some (.f2 .bvs)
  | 0x1 => some (.f2 .adcIndY)
  | 0x5 => some (.f2 .adcZpX)
  | 0x6 => some (.f2 .rorZpX)
  | 0x8 => some (.f1 .sei)
  | 0x9 => some (.f3 .adcAbsY)
  | 0xD => some (.f3 .adcAbsX)
  | 0xE => some (.f3 .rorAbsX)
  | _ => none

/-- Row 8x of R65. -/
def opcodeRow8 : Nat → Option Format
  | 0x1 => some (.f2 .staIndX)
  | 0x4 => some (.f2 .styZp)
  | 0x5 => some (.f2 .staZp)
  | 0x6 => some (.f2 .stxZp)
  | 0x8 => some (.f1 .dey)
  | 0xA => some (.f1 .txa)
  | 0xC => some (.f3 .styAbs)
  | 0xD => some (.f3 .staAbs)
  | 0xE => some (.f3 .stxAbs)
  | _ => none

/-- Row 9x of R65. -/
def opcodeRow9 : Nat → Option Format
  | 0x0 => some (.f2 .bcc)
  | 0x1 => some (.f2 .staIndY)
  | 0x4 => some (.f2 .styZpX)
  | 0x5 => some (.f2 .staZpX)
  | 0x6 => some (.f2 .stxZpY)
  | 0x8 => some (.f1 .tya)
  | 0x9 => some (.f3 .staAbsY)
  | 0xA => some (.f1 .txs)
  | 0xD => some (.f3 .staAbsX)
  | _ => none

/-- Row Ax of R65. -/
def opcodeRowA : Nat → Option Format
  | 0x0 => some (.f2 .ldyImm)
  | 0x1 => some (.f2 .ldaIndX)
  | 0x2 => some (.f2 .ldxImm)
  | 0x4 => some (.f2 .ldyZp)
  | 0x5 => some (.f2 .ldaZp)
  | 0x6 => some (.f2 .ldxZp)
  | 0x8 => some (.f1 .tay)
  | 0x9 => some (.f2 .ldaImm)
  | 0xA => some (.f1 .tax)
  | 0xC => some (.f3 .ldyAbs)
  | 0xD => some (.f3 .ldaAbs)
  | 0xE => some (.f3 .ldxAbs)
  | _ => none

/-- Row Bx of R65. -/
def opcodeRowB : Nat → Option Format
  | 0x0 => some (.f2 .bcs)
  | 0x1 => some (.f2 .ldaIndY)
  | 0x4 => some (.f2 .ldyZpX)
  | 0x5 => some (.f2 .ldaZpX)
  | 0x6 => some (.f2 .ldxZpY)
  | 0x8 => some (.f1 .clv)
  | 0x9 => some (.f3 .ldaAbsY)
  | 0xA => some (.f1 .tsx)
  | 0xC => some (.f3 .ldyAbsX)
  | 0xD => some (.f3 .ldaAbsX)
  | 0xE => some (.f3 .ldxAbsY)
  | _ => none

/-- Row Cx of R65. -/
def opcodeRowC : Nat → Option Format
  | 0x0 => some (.f2 .cpyImm)
  | 0x1 => some (.f2 .cmpIndX)
  | 0x4 => some (.f2 .cpyZp)
  | 0x5 => some (.f2 .cmpZp)
  | 0x6 => some (.f2 .decZp)
  | 0x8 => some (.f1 .iny)
  | 0x9 => some (.f2 .cmpImm)
  | 0xA => some (.f1 .dex)
  | 0xC => some (.f3 .cpyAbs)
  | 0xD => some (.f3 .cmpAbs)
  | 0xE => some (.f3 .decAbs)
  | _ => none

/-- Row Dx of R65. -/
def opcodeRowD : Nat → Option Format
  | 0x0 => some (.f2 .bne)
  | 0x1 => some (.f2 .cmpIndY)
  | 0x5 => some (.f2 .cmpZpX)
  | 0x6 => some (.f2 .decZpX)
  | 0x8 => some (.f1 .cld)
  | 0x9 => some (.f3 .cmpAbsY)
  | 0xD => some (.f3 .cmpAbsX)
  | 0xE => some (.f3 .decAbsX)
  | _ => none

/-- Row Ex of R65. -/
def opcodeRowE : Nat → Option Format
  | 0x0 => some (.f2 .cpxImm)
  | 0x1 => some (.f2 .sbcIndX)
  | 0x4 => some (.f2 .cpxZp)
  | 0x5 => some (.f2 .sbcZp)
  | 0x6 => some (.f2 .incZp)
  | 0x8 => some (.f1 .inx)
  | 0x9 => some (.f2 .sbcImm)
  | 0xA => some (.f1 .nop)
  | 0xC => some (.f3 .cpxAbs)
  | 0xD => some (.f3 .sbcAbs)
  | 0xE => some (.f3 .incAbs)
  | _ => none

/-- Row Fx of R65. -/
def opcodeRowF : Nat → Option Format
  | 0x0 => some (.f2 .beq)
  | 0x1 => some (.f2 .sbcIndY)
  | 0x5 => some (.f2 .sbcZpX)
  | 0x6 => some (.f2 .incZpX)
  | 0x8 => some (.f1 .sed)
  | 0x9 => some (.f3 .sbcAbsY)
  | 0xD => some (.f3 .sbcAbsX)
  | 0xE => some (.f3 .incAbsX)
  | _ => none

/-- The format and instruction of an opcode byte in the full documented map (R65). -/
def opcodeFormat (op : Byte) : Option Format :=
  let column := op.toNat % 16
  match op.toNat / 16 with
  | 0x0 => opcodeRow0 column
  | 0x1 => opcodeRow1 column
  | 0x2 => opcodeRow2 column
  | 0x3 => opcodeRow3 column
  | 0x4 => opcodeRow4 column
  | 0x5 => opcodeRow5 column
  | 0x6 => opcodeRow6 column
  | 0x7 => opcodeRow7 column
  | 0x8 => opcodeRow8 column
  | 0x9 => opcodeRow9 column
  | 0xA => opcodeRowA column
  | 0xB => opcodeRowB column
  | 0xC => opcodeRowC column
  | 0xD => opcodeRowD column
  | 0xE => opcodeRowE column
  | 0xF => opcodeRowF column
  | _ => none

/-- The 19 opcodes of the source's minimum set (R67): Add-with-Carry, the two Jumps,
Jump-to-Subroutine and Load-Accumulator. -/
def minimum19 : List Byte :=
  [0x69, 0x65, 0x75, 0x6D, 0x7D, 0x79, 0x61, 0x71, 0x4C, 0x6C, 0x20,
   0xA9, 0xA5, 0xB5, 0xAD, 0xBD, 0xB9, 0xA1, 0xB1]

/-- Whether an opcode byte is recognized under `P_OPCODE_SET` (R66). -/
def recognized (set : OpcodeSet) (op : Byte) : Bool :=
  (opcodeFormat op).isSome && (set == .documented151 || minimum19.contains op)

/-- The decoder. It reads an instruction from the front of the bytes and answers it with the rest;
`set` is `P_OPCODE_SET` and `order` is `word_order`. -/
def decode (set : OpcodeSet) (order : WordOrder) : List Byte → Except DecodeError (Instr × List Byte)
  | [] => .error .truncated
  | op :: rest =>
    if recognized set op then
      match opcodeFormat op, rest with
      | some (.f1 i), rest            => .ok (i, rest)
      | some (.f2 f), b :: rest       => .ok (f b, rest)
      | some (.f3 f), b0 :: b1 :: rest => .ok (f (joinBytes order b0 b1), rest)
      | some _, _                     => .error .truncated
      | none, _                       => .error (.unrecognized op)
    else .error (.unrecognized op)

/-! ## The entry of an instruction (R75): mode, base cycles (R65, R251) and page penalty (R81). -/

/-- The decoder entry of an instruction. -/
def Instr.entry : Instr → Entry
  | .adcImm _ => ⟨.adc, .imm, 2, false⟩
  | .adcZp _ => ⟨.adc, .zp, 3, false⟩
  | .adcZpX _ => ⟨.adc, .zpx, 4, false⟩
  | .adcAbs _ => ⟨.adc, .abs, 4, false⟩
  | .adcAbsX _ => ⟨.adc, .absx, 4, true⟩
  | .adcAbsY _ => ⟨.adc, .absy, 4, true⟩
  | .adcIndX _ => ⟨.adc, .indx, 6, false⟩
  | .adcIndY _ => ⟨.adc, .indy, 5, true⟩
  | .sbcImm _ => ⟨.sbc, .imm, 2, false⟩
  | .sbcZp _ => ⟨.sbc, .zp, 3, false⟩
  | .sbcZpX _ => ⟨.sbc, .zpx, 4, false⟩
  | .sbcAbs _ => ⟨.sbc, .abs, 4, false⟩
  | .sbcAbsX _ => ⟨.sbc, .absx, 4, true⟩
  | .sbcAbsY _ => ⟨.sbc, .absy, 4, true⟩
  | .sbcIndX _ => ⟨.sbc, .indx, 6, false⟩
  | .sbcIndY _ => ⟨.sbc, .indy, 5, true⟩
  | .cmpImm _ => ⟨.cmp, .imm, 2, false⟩
  | .cmpZp _ => ⟨.cmp, .zp, 3, false⟩
  | .cmpZpX _ => ⟨.cmp, .zpx, 4, false⟩
  | .cmpAbs _ => ⟨.cmp, .abs, 4, false⟩
  | .cmpAbsX _ => ⟨.cmp, .absx, 4, true⟩
  | .cmpAbsY _ => ⟨.cmp, .absy, 4, true⟩
  | .cmpIndX _ => ⟨.cmp, .indx, 6, false⟩
  | .cmpIndY _ => ⟨.cmp, .indy, 5, true⟩
  | .cpxImm _ => ⟨.cpx, .imm, 2, false⟩
  | .cpxZp _ => ⟨.cpx, .zp, 3, false⟩
  | .cpxAbs _ => ⟨.cpx, .abs, 4, false⟩
  | .cpyImm _ => ⟨.cpy, .imm, 2, false⟩
  | .cpyZp _ => ⟨.cpy, .zp, 3, false⟩
  | .cpyAbs _ => ⟨.cpy, .abs, 4, false⟩
  | .incZp _ => ⟨.inc, .zp, 5, false⟩
  | .incZpX _ => ⟨.inc, .zpx, 6, false⟩
  | .incAbs _ => ⟨.inc, .abs, 6, false⟩
  | .incAbsX _ => ⟨.inc, .absx, 7, false⟩
  | .decZp _ => ⟨.dec, .zp, 5, false⟩
  | .decZpX _ => ⟨.dec, .zpx, 6, false⟩
  | .decAbs _ => ⟨.dec, .abs, 6, false⟩
  | .decAbsX _ => ⟨.dec, .absx, 7, false⟩
  | .inx => ⟨.inx, .imp, 2, false⟩
  | .iny => ⟨.iny, .imp, 2, false⟩
  | .dex => ⟨.dex, .imp, 2, false⟩
  | .dey => ⟨.dey, .imp, 2, false⟩
  | .ldaImm _ => ⟨.lda, .imm, 2, false⟩
  | .ldaZp _ => ⟨.lda, .zp, 3, false⟩
  | .ldaZpX _ => ⟨.lda, .zpx, 4, false⟩
  | .ldaAbs _ => ⟨.lda, .abs, 4, false⟩
  | .ldaAbsX _ => ⟨.lda, .absx, 4, true⟩
  | .ldaAbsY _ => ⟨.lda, .absy, 4, true⟩
  | .ldaIndX _ => ⟨.lda, .indx, 6, false⟩
  | .ldaIndY _ => ⟨.lda, .indy, 5, true⟩
  | .ldxImm _ => ⟨.ldx, .imm, 2, false⟩
  | .ldxZp _ => ⟨.ldx, .zp, 3, false⟩
  | .ldxZpY _ => ⟨.ldx, .zpy, 4, false⟩
  | .ldxAbs _ => ⟨.ldx, .abs, 4, false⟩
  | .ldxAbsY _ => ⟨.ldx, .absy, 4, true⟩
  | .ldyImm _ => ⟨.ldy, .imm, 2, false⟩
  | .ldyZp _ => ⟨.ldy, .zp, 3, false⟩
  | .ldyZpX _ => ⟨.ldy, .zpx, 4, false⟩
  | .ldyAbs _ => ⟨.ldy, .abs, 4, false⟩
  | .ldyAbsX _ => ⟨.ldy, .absx, 4, true⟩
  | .staZp _ => ⟨.sta, .zp, 3, false⟩
  | .staZpX _ => ⟨.sta, .zpx, 4, false⟩
  | .staAbs _ => ⟨.sta, .abs, 4, false⟩
  | .staAbsX _ => ⟨.sta, .absx, 5, false⟩
  | .staAbsY _ => ⟨.sta, .absy, 5, false⟩
  | .staIndX _ => ⟨.sta, .indx, 6, false⟩
  | .staIndY _ => ⟨.sta, .indy, 6, false⟩
  | .stxZp _ => ⟨.stx, .zp, 3, false⟩
  | .stxZpY _ => ⟨.stx, .zpy, 4, false⟩
  | .stxAbs _ => ⟨.stx, .abs, 4, false⟩
  | .styZp _ => ⟨.sty, .zp, 3, false⟩
  | .styZpX _ => ⟨.sty, .zpx, 4, false⟩
  | .styAbs _ => ⟨.sty, .abs, 4, false⟩
  | .andImm _ => ⟨.and, .imm, 2, false⟩
  | .andZp _ => ⟨.and, .zp, 3, false⟩
  | .andZpX _ => ⟨.and, .zpx, 4, false⟩
  | .andAbs _ => ⟨.and, .abs, 4, false⟩
  | .andAbsX _ => ⟨.and, .absx, 4, true⟩
  | .andAbsY _ => ⟨.and, .absy, 4, true⟩
  | .andIndX _ => ⟨.and, .indx, 6, false⟩
  | .andIndY _ => ⟨.and, .indy, 5, true⟩
  | .oraImm _ => ⟨.ora, .imm, 2, false⟩
  | .oraZp _ => ⟨.ora, .zp, 3, false⟩
  | .oraZpX _ => ⟨.ora, .zpx, 4, false⟩
  | .oraAbs _ => ⟨.ora, .abs, 4, false⟩
  | .oraAbsX _ => ⟨.ora, .absx, 4, true⟩
  | .oraAbsY _ => ⟨.ora, .absy, 4, true⟩
  | .oraIndX _ => ⟨.ora, .indx, 6, false⟩
  | .oraIndY _ => ⟨.ora, .indy, 5, true⟩
  | .eorImm _ => ⟨.eor, .imm, 2, false⟩
  | .eorZp _ => ⟨.eor, .zp, 3, false⟩
  | .eorZpX _ => ⟨.eor, .zpx, 4, false⟩
  | .eorAbs _ => ⟨.eor, .abs, 4, false⟩
  | .eorAbsX _ => ⟨.eor, .absx, 4, true⟩
  | .eorAbsY _ => ⟨.eor, .absy, 4, true⟩
  | .eorIndX _ => ⟨.eor, .indx, 6, false⟩
  | .eorIndY _ => ⟨.eor, .indy, 5, true⟩
  | .bitZp _ => ⟨.bit, .zp, 3, false⟩
  | .bitAbs _ => ⟨.bit, .abs, 4, false⟩
  | .aslAcc => ⟨.asl, .acc, 2, false⟩
  | .aslZp _ => ⟨.asl, .zp, 5, false⟩
  | .aslZpX _ => ⟨.asl, .zpx, 6, false⟩
  | .aslAbs _ => ⟨.asl, .abs, 6, false⟩
  | .aslAbsX _ => ⟨.asl, .absx, 7, false⟩
  | .lsrAcc => ⟨.lsr, .acc, 2, false⟩
  | .lsrZp _ => ⟨.lsr, .zp, 5, false⟩
  | .lsrZpX _ => ⟨.lsr, .zpx, 6, false⟩
  | .lsrAbs _ => ⟨.lsr, .abs, 6, false⟩
  | .lsrAbsX _ => ⟨.lsr, .absx, 7, false⟩
  | .rolAcc => ⟨.rol, .acc, 2, false⟩
  | .rolZp _ => ⟨.rol, .zp, 5, false⟩
  | .rolZpX _ => ⟨.rol, .zpx, 6, false⟩
  | .rolAbs _ => ⟨.rol, .abs, 6, false⟩
  | .rolAbsX _ => ⟨.rol, .absx, 7, false⟩
  | .rorAcc => ⟨.ror, .acc, 2, false⟩
  | .rorZp _ => ⟨.ror, .zp, 5, false⟩
  | .rorZpX _ => ⟨.ror, .zpx, 6, false⟩
  | .rorAbs _ => ⟨.ror, .abs, 6, false⟩
  | .rorAbsX _ => ⟨.ror, .absx, 7, false⟩
  | .jmpAbs _ => ⟨.jmp, .abs, 3, false⟩
  | .jmpInd _ => ⟨.jmp, .ind, 5, false⟩
  | .jsr _ => ⟨.jsr, .abs, 6, false⟩
  | .rts => ⟨.rts, .imp, 6, false⟩
  | .bcc _ => ⟨.bcc, .rel, 2, false⟩
  | .bcs _ => ⟨.bcs, .rel, 2, false⟩
  | .beq _ => ⟨.beq, .rel, 2, false⟩
  | .bmi _ => ⟨.bmi, .rel, 2, false⟩
  | .bne _ => ⟨.bne, .rel, 2, false⟩
  | .bpl _ => ⟨.bpl, .rel, 2, false⟩
  | .bvc _ => ⟨.bvc, .rel, 2, false⟩
  | .bvs _ => ⟨.bvs, .rel, 2, false⟩
  | .pha => ⟨.pha, .imp, 3, false⟩
  | .php => ⟨.php, .imp, 3, false⟩
  | .pla => ⟨.pla, .imp, 4, false⟩
  | .plp => ⟨.plp, .imp, 4, false⟩
  | .tax => ⟨.tax, .imp, 2, false⟩
  | .tay => ⟨.tay, .imp, 2, false⟩
  | .txa => ⟨.txa, .imp, 2, false⟩
  | .tya => ⟨.tya, .imp, 2, false⟩
  | .tsx => ⟨.tsx, .imp, 2, false⟩
  | .txs => ⟨.txs, .imp, 2, false⟩
  | .clc => ⟨.clc, .imp, 2, false⟩
  | .sec => ⟨.sec, .imp, 2, false⟩
  | .cli => ⟨.cli, .imp, 2, false⟩
  | .sei => ⟨.sei, .imp, 2, false⟩
  | .cld => ⟨.cld, .imp, 2, false⟩
  | .sed => ⟨.sed, .imp, 2, false⟩
  | .clv => ⟨.clv, .imp, 2, false⟩
  | .nop => ⟨.nop, .imp, 2, false⟩
  | .brk => ⟨.brk, .imp, 7, false⟩
  | .rti => ⟨.rti, .imp, 6, false⟩

/-- The number of bytes of an instruction (R61, R70, R112). -/
def Instr.length (i : Instr) : Nat := i.entry.mode.length

/-- The cost of an instruction (R80): its base, and one cycle more when its opcode has the page penalty
and the mode crossed a page (R81, R111). -/
def Instr.cost (i : Instr) (crossed : Bool) : Nat := i.entry.base + (i.entry.pen && crossed).toNat

/-- `Decode(op)` of R75: the entry of an opcode byte, `none` exactly when it is unrecognized. It has
no other input than the opcode and `P_OPCODE_SET`. -/
def decodeEntry (set : OpcodeSet) (op : Byte) : Option Entry :=
  if recognized set op then
    (opcodeFormat op).map fun
      | .f1 i => i.entry
      | .f2 f => (f 0).entry
      | .f3 f => (f 0).entry
  else none

/-! ## The encoder -/

/-- What follows the opcode byte: nothing, one byte or one word (R61). -/
inductive OperandField where
  | none
  | byte (b : Byte)
  | word (w : Word)
  deriving DecidableEq, Repr

/-- The opcode byte of an instruction (R65, R113). -/
def Instr.opcode : Instr → Byte
  | .adcImm _ => 0x69
  | .adcZp _ => 0x65
  | .adcZpX _ => 0x75
  | .adcAbs _ => 0x6D
  | .adcAbsX _ => 0x7D
  | .adcAbsY _ => 0x79
  | .adcIndX _ => 0x61
  | .adcIndY _ => 0x71
  | .sbcImm _ => 0xE9
  | .sbcZp _ => 0xE5
  | .sbcZpX _ => 0xF5
  | .sbcAbs _ => 0xED
  | .sbcAbsX _ => 0xFD
  | .sbcAbsY _ => 0xF9
  | .sbcIndX _ => 0xE1
  | .sbcIndY _ => 0xF1
  | .cmpImm _ => 0xC9
  | .cmpZp _ => 0xC5
  | .cmpZpX _ => 0xD5
  | .cmpAbs _ => 0xCD
  | .cmpAbsX _ => 0xDD
  | .cmpAbsY _ => 0xD9
  | .cmpIndX _ => 0xC1
  | .cmpIndY _ => 0xD1
  | .cpxImm _ => 0xE0
  | .cpxZp _ => 0xE4
  | .cpxAbs _ => 0xEC
  | .cpyImm _ => 0xC0
  | .cpyZp _ => 0xC4
  | .cpyAbs _ => 0xCC
  | .incZp _ => 0xE6
  | .incZpX _ => 0xF6
  | .incAbs _ => 0xEE
  | .incAbsX _ => 0xFE
  | .decZp _ => 0xC6
  | .decZpX _ => 0xD6
  | .decAbs _ => 0xCE
  | .decAbsX _ => 0xDE
  | .inx => 0xE8
  | .iny => 0xC8
  | .dex => 0xCA
  | .dey => 0x88
  | .ldaImm _ => 0xA9
  | .ldaZp _ => 0xA5
  | .ldaZpX _ => 0xB5
  | .ldaAbs _ => 0xAD
  | .ldaAbsX _ => 0xBD
  | .ldaAbsY _ => 0xB9
  | .ldaIndX _ => 0xA1
  | .ldaIndY _ => 0xB1
  | .ldxImm _ => 0xA2
  | .ldxZp _ => 0xA6
  | .ldxZpY _ => 0xB6
  | .ldxAbs _ => 0xAE
  | .ldxAbsY _ => 0xBE
  | .ldyImm _ => 0xA0
  | .ldyZp _ => 0xA4
  | .ldyZpX _ => 0xB4
  | .ldyAbs _ => 0xAC
  | .ldyAbsX _ => 0xBC
  | .staZp _ => 0x85
  | .staZpX _ => 0x95
  | .staAbs _ => 0x8D
  | .staAbsX _ => 0x9D
  | .staAbsY _ => 0x99
  | .staIndX _ => 0x81
  | .staIndY _ => 0x91
  | .stxZp _ => 0x86
  | .stxZpY _ => 0x96
  | .stxAbs _ => 0x8E
  | .styZp _ => 0x84
  | .styZpX _ => 0x94
  | .styAbs _ => 0x8C
  | .andImm _ => 0x29
  | .andZp _ => 0x25
  | .andZpX _ => 0x35
  | .andAbs _ => 0x2D
  | .andAbsX _ => 0x3D
  | .andAbsY _ => 0x39
  | .andIndX _ => 0x21
  | .andIndY _ => 0x31
  | .oraImm _ => 0x09
  | .oraZp _ => 0x05
  | .oraZpX _ => 0x15
  | .oraAbs _ => 0x0D
  | .oraAbsX _ => 0x1D
  | .oraAbsY _ => 0x19
  | .oraIndX _ => 0x01
  | .oraIndY _ => 0x11
  | .eorImm _ => 0x49
  | .eorZp _ => 0x45
  | .eorZpX _ => 0x55
  | .eorAbs _ => 0x4D
  | .eorAbsX _ => 0x5D
  | .eorAbsY _ => 0x59
  | .eorIndX _ => 0x41
  | .eorIndY _ => 0x51
  | .bitZp _ => 0x24
  | .bitAbs _ => 0x2C
  | .aslAcc => 0x0A
  | .aslZp _ => 0x06
  | .aslZpX _ => 0x16
  | .aslAbs _ => 0x0E
  | .aslAbsX _ => 0x1E
  | .lsrAcc => 0x4A
  | .lsrZp _ => 0x46
  | .lsrZpX _ => 0x56
  | .lsrAbs _ => 0x4E
  | .lsrAbsX _ => 0x5E
  | .rolAcc => 0x2A
  | .rolZp _ => 0x26
  | .rolZpX _ => 0x36
  | .rolAbs _ => 0x2E
  | .rolAbsX _ => 0x3E
  | .rorAcc => 0x6A
  | .rorZp _ => 0x66
  | .rorZpX _ => 0x76
  | .rorAbs _ => 0x6E
  | .rorAbsX _ => 0x7E
  | .jmpAbs _ => 0x4C
  | .jmpInd _ => 0x6C
  | .jsr _ => 0x20
  | .rts => 0x60
  | .bcc _ => 0x90
  | .bcs _ => 0xB0
  | .beq _ => 0xF0
  | .bmi _ => 0x30
  | .bne _ => 0xD0
  | .bpl _ => 0x10
  | .bvc _ => 0x50
  | .bvs _ => 0x70
  | .pha => 0x48
  | .php => 0x08
  | .pla => 0x68
  | .plp => 0x28
  | .tax => 0xAA
  | .tay => 0xA8
  | .txa => 0x8A
  | .tya => 0x98
  | .tsx => 0xBA
  | .txs => 0x9A
  | .clc => 0x18
  | .sec => 0x38
  | .cli => 0x58
  | .sei => 0x78
  | .cld => 0xD8
  | .sed => 0xF8
  | .clv => 0xB8
  | .nop => 0xEA
  | .brk => 0x00
  | .rti => 0x40

/-- The operand an instruction carries. -/
def Instr.operandField : Instr → OperandField
  | .inx | .iny | .dex | .dey | .aslAcc | .lsrAcc
  | .rolAcc | .rorAcc | .rts | .pha | .php | .pla
  | .plp | .tax | .tay | .txa | .tya | .tsx
  | .txs | .clc | .sec | .cli | .sei | .cld
  | .sed | .clv | .nop | .brk | .rti => .none
  | .adcImm b | .adcZp b | .adcZpX b | .adcIndX b | .adcIndY b | .sbcImm b
  | .sbcZp b | .sbcZpX b | .sbcIndX b | .sbcIndY b | .cmpImm b | .cmpZp b
  | .cmpZpX b | .cmpIndX b | .cmpIndY b | .cpxImm b | .cpxZp b | .cpyImm b
  | .cpyZp b | .incZp b | .incZpX b | .decZp b | .decZpX b | .ldaImm b
  | .ldaZp b | .ldaZpX b | .ldaIndX b | .ldaIndY b | .ldxImm b | .ldxZp b
  | .ldxZpY b | .ldyImm b | .ldyZp b | .ldyZpX b | .staZp b | .staZpX b
  | .staIndX b | .staIndY b | .stxZp b | .stxZpY b | .styZp b | .styZpX b
  | .andImm b | .andZp b | .andZpX b | .andIndX b | .andIndY b | .oraImm b
  | .oraZp b | .oraZpX b | .oraIndX b | .oraIndY b | .eorImm b | .eorZp b
  | .eorZpX b | .eorIndX b | .eorIndY b | .bitZp b | .aslZp b | .aslZpX b
  | .lsrZp b | .lsrZpX b | .rolZp b | .rolZpX b | .rorZp b | .rorZpX b
  | .bcc b | .bcs b | .beq b | .bmi b | .bne b | .bpl b
  | .bvc b | .bvs b => .byte b
  | .adcAbs w | .adcAbsX w | .adcAbsY w | .sbcAbs w | .sbcAbsX w | .sbcAbsY w
  | .cmpAbs w | .cmpAbsX w | .cmpAbsY w | .cpxAbs w | .cpyAbs w | .incAbs w
  | .incAbsX w | .decAbs w | .decAbsX w | .ldaAbs w | .ldaAbsX w | .ldaAbsY w
  | .ldxAbs w | .ldxAbsY w | .ldyAbs w | .ldyAbsX w | .staAbs w | .staAbsX w
  | .staAbsY w | .stxAbs w | .styAbs w | .andAbs w | .andAbsX w | .andAbsY w
  | .oraAbs w | .oraAbsX w | .oraAbsY w | .eorAbs w | .eorAbsX w | .eorAbsY w
  | .bitAbs w | .aslAbs w | .aslAbsX w | .lsrAbs w | .lsrAbsX w | .rolAbs w
  | .rolAbsX w | .rorAbs w | .rorAbsX w | .jmpAbs w | .jmpInd w | .jsr w => .word w

/-- The bytes of an operand in address order (R62). -/
def OperandField.bytes (order : WordOrder) : OperandField → List Byte
  | .none   => []
  | .byte b => [b]
  | .word w => splitWord order w

/-- The encoder: the bytes of an instruction in address order. -/
def encode (order : WordOrder) (i : Instr) : List Byte :=
  i.opcode :: i.operandField.bytes order

/-! ## The host's table words -/

/-- The bytes of an instruction given as one number, bit 0 the least significant bit of the first
byte, every bit from `nbits` up taken as 0; three bytes, the longest instruction (R60). -/
def tableBytes (nbits w : Nat) : List Byte :=
  let v := w % 2 ^ nbits
  [BitVec.ofNat 8 v, BitVec.ofNat 8 (v / 256), BitVec.ofNat 8 (v / 65536)]

/-- The instruction the decoder reads from a table word, under `documented151` and `little` (log 16). -/
def decodeTableWord (nbits w : Nat) : Option Instr :=
  match decode .documented151 .little (tableBytes nbits w) with
  | .ok (i, _) => some i
  | .error _   => none

end Sys2Proof
end

