-- ==== Sys2Proof/Machine/State.lean ====
section
/-! DEFINITION. The state of the machine (10_state.md), its fatal reasons, refusals and events
(60_exceptions.md R220 to R222), and the state right after reset (R36). -/

namespace Sys2Proof.Machine

/-- Memory: the bytes that differ from 0, by address, in strictly rising order of address.
An address with no entry reads as 0, the value reset gives every byte (20_memory.md R41). -/
abbrev Memory := List Host.Cell

/-- The seven stored flags (10_state.md R25). -/
structure Flags where
  c : Bool
  z : Bool
  i : Bool
  d : Bool
  b : Bool
  v : Bool
  n : Bool
  deriving DecidableEq, Repr

/-- The fatal reasons (R220). -/
inductive Fault where
  /-- `FATAL_READ_RANGE(n)`, code 1. Raised by the host read port at `n ≥ 0x10000` (R44), and in the
  core only under `P_ADDR_OVERFLOW = fault` by a read of an address sum that passed 0xFFFF (R97).
  Safe: the spec names the stop. -/
  | readRange (n : Nat)
  /-- `FATAL_ILLEGAL_LIMIT(op, a0)`, code 2. Raised by the step of the 10th unrecognized opcode (R83).
  Safe: the spec names the stop. -/
  | illegalLimit (op : Byte) (a0 : Word)
  /-- `FATAL_BUDGET_SHORTFALL(op, a0)`, code 3. Raised by a step under `P_SHORTFALL = fault` whose
  opcode costs more than the budget left (R82). Safe: the spec names the stop. -/
  | budgetShortfall (op : Byte) (a0 : Word)
  deriving DecidableEq, Repr

/-- The refusals (R221). -/
inductive Refusal where
  /-- An instruction whose arm of `exec` has no meaning yet. No arm raises it. Safe. -/
  | notModelled (mnemonic : String)
  /-- `REFUSE_DECIMAL(op, a0)`, code 16. Raised by ADC and SBC with D = 1 under
  `P_DECIMAL = refuse` (R86). Safe: the spec names the stop. -/
  | decimal (op : Byte) (a0 : Word)
  /-- `REFUSE_NOT_RESET`, code 17. Raised before the first reset (R79). Safe: the spec names it. -/
  | notReset
  deriving DecidableEq, Repr

/-- The event that stops nothing (R222). -/
inductive Event where
  /-- `EV_UNRECOGNIZED(op, a0)`, code 32. -/
  | unrecognized (op : Byte) (a0 : Word)
  deriving DecidableEq, Repr

/-- How far the host has come with the byte order, which it sets once, before a session's first execute
call (20_memory.md R45, 70_reset_and_hazards.md R245; log 23). -/
inductive OrderSetup where
  /-- Not set, and no execute call made: the host may set it. -/
  | awaited
  /-- Set, and no execute call made. -/
  | chosen
  /-- The session has had an execute call. -/
  | locked
  deriving DecidableEq, Repr

/-- Everything the spec gives the machine. -/
structure State where
  /-- The accumulator `A` (R20). -/
  a : Byte
  /-- The index register `X` (R21). -/
  x : Byte
  /-- The index register `Y` (R22). -/
  y : Byte
  /-- The stack pointer `SP`, an offset into page 1 (R23). -/
  sp : Byte
  /-- The program counter (R24). -/
  pc : Word
  /-- The seven flags (R25). -/
  flags : Flags
  /-- The 65536 bytes of memory (R40). -/
  mem : Memory
  /-- The configuration `word_order` (R33). -/
  wordOrder : WordOrder
  /-- Whether the host may still set `word_order` (R45, R245; the model's own field, log 23). -/
  orderSetup : OrderSetup
  /-- The session flag `reset_done` (R34). -/
  resetDone : Bool
  /-- The unrecognized-opcode counter `illegal_count` (R30). -/
  illegalCount : Nat
  /-- The fatal latch (R31). -/
  fatal : Option Fault
  /-- The refusal mark (R31, R221), set when it holds a reason (log 8). -/
  refused : Option Refusal
  /-- The cycle budget, present only during an execute call (R32). -/
  budget : Option Int
  /-- The events emitted so far, oldest first (R222; the model's own field, log 6). -/
  events : List Event
  /-- The launch parameters of R8 (the model's own field, log 1). -/
  params : Params
  deriving DecidableEq, Repr

/-- The machine right after reset (R36, R240), with the parameters at R8's defaults (log 3), INIT all
zero (log 4), `word_order = little` (log 2), and the host still free to set it (log 23). -/
def State.reset : State :=
  { a := 0, x := 0, y := 0, sp := 0xFF, pc := 0xFFFC,
    flags := { c := false, z := false, i := true, d := false, b := false, v := false, n := false },
    mem := [], wordOrder := .little, orderSetup := .awaited, resetDone := true, illegalCount := 0,
    fatal := none, refused := none, budget := none, events := [], params := Params.default }

end Sys2Proof.Machine
end

