-- ==== Sys2Proof/Machine/Flags.lean ====
section
/-! DEFINITION. The ALU and the flag computations (42_alu_and_flags.md): pure functions on bytes, with the flags each one
gives, and the packed status byte (10_state.md R27, R28). -/

namespace Sys2Proof.Machine

/-! ## The flags as a byte -/

/-- `PackForPush()` (R28): N V 1 1 D I Z C from bit 7 to bit 0. -/
def Flags.packForPush (f : Flags) : Byte :=
  BitVec.ofNat 8 (128 * f.n.toNat + 64 * f.v.toNat + 32 + 16 + 8 * f.d.toNat + 4 * f.i.toNat
    + 2 * f.z.toNat + f.c.toNat)

/-- `Unpack(b)` (R28): bits 5 and 4 are ignored and the stored B is not written. -/
def Flags.unpack (f : Flags) (b : Byte) : Flags :=
  { f with n := b.getLsbD 7, v := b.getLsbD 6, d := b.getLsbD 3, i := b.getLsbD 2,
           z := b.getLsbD 1, c := b.getLsbD 0 }

/-- `SetZN(r)` (R115 to R117). -/
def Flags.setZN (f : Flags) (r : Byte) : Flags :=
  { f with z := r == 0, n := r.getLsbD 7 }

/-! ## Binary arithmetic -/

/-- A result byte with its carry and overflow. -/
structure AddResult where
  r : Byte
  c : Bool
  v : Bool
  deriving DecidableEq, Repr

/-- `ALU_ADC(a, m, c)` (R118). -/
def aluAdc (a m : Byte) (c : Bool) : AddResult :=
  let raw := a.toNat + m.toNat + c.toNat
  let r := BitVec.ofNat 8 raw
  { r := r, c := decide (256 ≤ raw),
    v := a.getLsbD 7 == m.getLsbD 7 && r.getLsbD 7 != a.getLsbD 7 }

/-- `ALU_SBC(a, m, c)` (R121): the add of the complement. -/
def aluSbc (a m : Byte) (c : Bool) : AddResult := aluAdc a (~~~m) c

/-- The flags of a compare. -/
structure CmpResult where
  c : Bool
  z : Bool
  n : Bool
  deriving DecidableEq, Repr

/-- `ALU_CMP(reg, m)` (R122). -/
def aluCmp (reg m : Byte) : CmpResult :=
  { c := decide (m.toNat ≤ reg.toNat), z := reg == m, n := (reg - m).getLsbD 7 }

/-- `ALU_INC(v)` (R129). -/
def aluInc (v : Byte) : Byte := v + 1

/-- `ALU_DEC(v)` (R129). -/
def aluDec (v : Byte) : Byte := v - 1

/-! ## Shifts and rotates -/

/-- A result byte with its carry. -/
structure ShiftResult where
  r : Byte
  c : Bool
  deriving DecidableEq, Repr

/-- `ALU_ASL(v)` (R123). -/
def aluAsl (v : Byte) : ShiftResult := { r := v <<< 1, c := v.getLsbD 7 }

/-- `ALU_LSR(v)` (R124). -/
def aluLsr (v : Byte) : ShiftResult := { r := v >>> 1, c := v.getLsbD 0 }

/-- `ALU_ROL(v, c)` (R125). -/
def aluRol (v : Byte) (c : Bool) : ShiftResult :=
  { r := (v <<< 1) ||| BitVec.ofNat 8 c.toNat, c := v.getLsbD 7 }

/-- `ALU_ROR(v, c)` (R126). -/
def aluRor (v : Byte) (c : Bool) : ShiftResult :=
  { r := (v >>> 1) ||| (BitVec.ofNat 8 c.toNat <<< 7), c := v.getLsbD 0 }

/-! ## Decimal arithmetic, only with D = 1 under `P_DECIMAL = nmos_bcd` -/

/-- A decimal add's result byte and its four flags. -/
structure BcdResult where
  r : Byte
  c : Bool
  z : Bool
  v : Bool
  n : Bool
  deriving DecidableEq, Repr

/-- The signed reading `s8(b)` of a byte (R9). -/
def s8 (b : Byte) : Int := b.toInt

/-- `ALU_ADC_BCD(a, m, c)` (R130). -/
def aluAdcBcd (a m : Byte) (c : Bool) : BcdResult :=
  let al0 : Int := (a &&& 0x0F).toNat + (m &&& 0x0F).toNat + c.toNat
  let al : Int := if 0x0A ≤ al0 then (al0 + 0x06) % 16 + 0x10 else al0
  let s : Int := (a &&& 0xF0).toNat + (m &&& 0xF0).toNat + al
  let ss : Int := s8 (a &&& 0xF0) + s8 (m &&& 0xF0) + al
  let s' : Int := if 0xA0 ≤ s then s + 0x60 else s
  { r := BitVec.ofInt 8 s',
    c := decide (0x100 ≤ s'),
    z := decide ((a.toNat + m.toNat + c.toNat) % 256 = 0),
    v := decide (ss < -128) || decide (127 < ss),
    n := (BitVec.ofInt 8 s).getLsbD 7 }

/-- `ALU_SBC_BCD(a, m, c)` (R131): the result byte; the flags are those of `aluSbc`. -/
def aluSbcBcd (a m : Byte) (c : Bool) : Byte :=
  let al0 : Int := (a &&& 0x0F).toNat - (m &&& 0x0F).toNat + c.toNat - 1
  let al : Int := if al0 < 0 then (al0 - 0x06) % 16 - 0x10 else al0
  let s : Int := (a &&& 0xF0).toNat - (m &&& 0xF0).toNat + al
  let s' : Int := if s < 0 then s - 0x60 else s
  BitVec.ofInt 8 s'

end Sys2Proof.Machine
end

