-- ==== Sys2Proof/Machine/Ops.lean ====
section
/-! DEFINITION. The named operations over memory and registers: the memory primitives (20_memory.md), fetch, the stack,
the cycle charge (40_execute_loop.md R80), and taking the one trap with the return from it (60_exceptions.md R226,
R228). -/

namespace Sys2Proof.Machine

/-- What an instruction's meaning answers. -/
abbrev Outcome := Host.Outcome State Fault Refusal

/-! ## Memory -/

/-- The number of bytes of memory (R6, R40). -/
abbrev memCapacity : Nat := 0x10000

/-- The byte an address with no entry reads as: reset's value (R41). -/
def unlistedByte : Byte := 0

/-- The canonical form from address `lo` on: addresses strictly rising and inside memory, and no entry
that holds what an unlisted address reads as. -/
def Memory.wfFrom : Nat → Memory → Bool
  | _, []          => true
  | lo, (a, v) :: m => decide (lo ≤ a) && decide (a < memCapacity) && v != unlistedByte
      && Memory.wfFrom (a + 1) m

/-- The canonical form of memory. -/
def Memory.wf (m : Memory) : Bool := Memory.wfFrom 0 m

/-- The byte at an address. -/
def Memory.read : Memory → Nat → Byte
  | [], _          => unlistedByte
  | (k, v) :: m, a => if k = a then v else Memory.read m a

/-- Sets the byte at an address, keeping the canonical form: writing the value an unlisted address
reads as removes the entry. -/
def Memory.write : Memory → Nat → Byte → Memory
  | [], a, v => if v = unlistedByte then [] else [(a, v)]
  | (k, w) :: m, a, v =>
    if k < a then (k, w) :: Memory.write m a v
    else if k = a then (if v = unlistedByte then m else (a, v) :: m)
    else if v = unlistedByte then (k, w) :: m
    else (a, v) :: (k, w) :: m

/-- `MemRead(a, 1)` at a 16-bit address, which cannot fault (R42). -/
def State.read (s : State) (a : Word) : Byte := s.mem.read a.toNat

/-- `MemWrite(a, 1, v)` at a 16-bit address (R43). -/
def State.write (s : State) (a : Word) (v : Byte) : State := { s with mem := s.mem.write a.toNat v }

/-- Writes bytes at successive addresses, wrapping at the top of memory. -/
def State.writeBytes (s : State) (a : Word) : List Byte → State
  | []      => s
  | v :: vs => (s.write a v).writeBytes (a + 1) vs

/-- The 16-bit value of the bytes at two addresses, assembled in `word_order` (R46). -/
def State.wordAt (s : State) (a0 a1 : Word) : Word := joinBytes s.wordOrder (s.read a0) (s.read a1)

/-! ## Fetch -/

/-- `FetchByte()` (R48): the byte at `pc`, and `pc + 1`, which always wraps. -/
def State.fetchByte (s : State) : Byte × State := (s.read s.pc, { s with pc := s.pc + 1 })

/-- `FetchWord()` (R49): two fetched bytes assembled in `word_order`. -/
def State.fetchWord (s : State) : Word × State :=
  let s1 := s.fetchByte.2
  (joinBytes s.wordOrder s.fetchByte.1 s1.fetchByte.1, s1.fetchByte.2)

/-- The next `k` bytes that fetching would give. -/
def State.fetchBytes : Nat → State → List Byte
  | 0, _     => []
  | k + 1, s => s.fetchByte.1 :: State.fetchBytes k s.fetchByte.2

/-- The state after all the bytes of an instruction at `pc` have been fetched: `pc` is the address of
the next instruction (41_addressing_modes.md R112). -/
def State.fetched (s : State) (i : Instr) : State := { s with pc := s.pc + BitVec.ofNat 16 i.length }

/-! ## Cycles -/

/-- `charge(n)` (00_scope.md R13): subtracts from the running budget; with no execute call running there is
none to charge (log 5). -/
def State.charge (s : State) (n : Nat) : State := { s with budget := s.budget.map (fun b => b - (n : Int)) }

/-- The end of an instruction's step, the charge of its cycles coming last (R77). -/
def State.finish (s : State) (cycles : Nat) : Outcome := .next (s.charge cycles)

/-! ## Registers -/

/-- Sets Z and N from a result byte (R117). -/
def State.setZN (s : State) (r : Byte) : State := { s with flags := s.flags.setZN r }

/-! ## The stack -/

/-- `StackAddr(SP)` (R51): the stack occupies page 1. -/
def stackAddr (sp : Byte) : Word := 0x0100 ||| sp.setWidth 16

/-- `Push(v)` (R52): store, then decrement SP, which wraps within page 1. -/
def State.push (s : State) (v : Byte) : State := { s.write (stackAddr s.sp) v with sp := s.sp - 1 }

/-- `Pull()` (R53): increment SP, then read. -/
def State.pull (s : State) : Byte × State :=
  (s.read (stackAddr (s.sp + 1)), { s with sp := s.sp + 1 })

/-- Pushes an address, high byte first, whatever `word_order` is (R152, D9). -/
def State.pushWord (s : State) (w : Word) : State := (s.push (hiByte w)).push (loByte w)

/-- Pulls an address, low byte first (R153). -/
def State.pullWord (s : State) : Word × State :=
  let s1 := s.pull.2
  (s1.pull.1 ++ s.pull.1, s1.pull.2)

/-! ## The trap -/

/-- The addresses of the two bytes of the BRK vector (R55, R215). -/
abbrev brkVector : Word := 0xFFFE

/-- Taking the trap (R226): the return address and the packed status are pushed, I is set, D and the
mode stay, and `pc` is the word at the BRK vector in `word_order`. Both vector bytes are in range
under every parameter (R215). -/
def State.takeTrap (s : State) (ret : Word) : State :=
  let s1 := (s.pushWord ret).push s.flags.packForPush
  { s with sp := s1.sp, mem := s1.mem, flags := { s.flags with i := true },
           pc := s1.wordAt brkVector (brkVector + 1) }

/-- The return from the trap (R228, R216): the status byte, then `pc`, with nothing added. -/
def State.returnFromTrap (s : State) : State :=
  let s1 := s.pull.2
  { s with sp := s1.pullWord.2.sp, flags := s.flags.unpack s.pull.1, pc := s1.pullWord.1 }

end Sys2Proof.Machine
end

