-- ==== Sys2Proof/Machine/Operands.lean ====
section
/-! DEFINITION. The addressing-mode resolver (41_addressing_modes.md): the address sums, the effective address of every
operand form, reading an operand and writing a result back. -/

namespace Sys2Proof.Machine

/-! ## Address arithmetic -/

/-- `ZPAdd(b, k)` (R96), under `P_ZP_WRAP`. -/
def zpAdd (z : ZpWrap) (b k : Byte) : Word :=
  match z with
  | .page   => (b + k).setWidth 16
  | .linear => b.setWidth 16 + k.setWidth 16

/-- An address a core access carries (R97): a 16-bit one, or a sum that left the address space. -/
inductive EffAddr where
  | addr (a : Word)
  | oor  (n : Nat)
  deriving DecidableEq, Repr

/-- `AddrAdd(a, k)` (R97), under `P_ADDR_OVERFLOW`. -/
def addrAdd (o : AddrOverflow) (a k : Word) : EffAddr :=
  if a.toNat + k.toNat < memCapacity then .addr (a + k)
  else match o with
    | .wrap  => .addr (a + k)
    | .fault => .oor (a.toNat + k.toNat)

/-- `PageCross(base, ea)` (R111): the bits 15 to 8 differ. An out-of-range sum has no such bits and none
is asked for: reading it is fatal, and stores have no penalty (log 13). -/
def pageCross (base : Word) : EffAddr → Bool
  | .addr ea => hiByte base != hiByte ea
  | .oor _ => false

/-- `ZPWord(p)` (R109): a pointer from zero page, its second byte at the successor `P_ZP_WRAP` gives.
No address of it can be out of range (log 12). -/
def State.zpWord (s : State) (p : Word) : Word :=
  match s.params.zpWrap with
  | .page   => s.wordAt p ((loByte p + 1).setWidth 16)
  | .linear => s.wordAt p (p + 1)

/-- A read through an `EffAddr` (R97): out of range it is fatal. -/
def State.readAt (s : State) : EffAddr → Except Fault Byte
  | .addr a  => .ok (s.read a)
  | .oor n => .error (.readRange n)

/-- A write through an `EffAddr` (R97): out of range it has no effect. -/
def State.writeAt (s : State) (v : Byte) : EffAddr → State
  | .addr a  => s.write a v
  | .oor _ => s

/-- `MemRead(a, 2)` (R46): the bytes at `a` and at `AddrAdd(a, 1)`, assembled in `word_order`. -/
def State.readWord (s : State) (a : Word) : Except Fault Word :=
  match s.readAt (addrAdd s.params.addrOverflow a 1) with
  | .ok b1   => .ok (joinBytes s.wordOrder (s.read a) b1)
  | .error f => .error f

/-! ## The resolvers -/

/-- Where an operand is: a value the instruction carries, the accumulator, or memory. -/
inductive Place where
  | value (v : Byte)
  | acc
  | mem (ea : EffAddr)
  deriving DecidableEq, Repr

/-- What resolving a mode gives: the operand's place and the page-cross bit. -/
structure Resolved where
  place   : Place
  crossed : Bool
  deriving DecidableEq, Repr

/-- A base address plus an index register (R104, R107). -/
def State.indexed (s : State) (base : Word) (k : Byte) : Resolved :=
  let ea := addrAdd s.params.addrOverflow base (k.setWidth 16)
  { place := .mem ea, crossed := pageCross base ea }

/-- `Resolve(mode)` for every operand form (R99 to R107). -/
def State.resolve (s : State) : Operand → Resolved
  | .acc    => { place := .acc, crossed := false }
  | .imm v  => { place := .value v, crossed := false }
  | .zp b   => { place := .mem (.addr (b.setWidth 16)), crossed := false }
  | .zpx b  => { place := .mem (.addr (zpAdd s.params.zpWrap b s.x)), crossed := false }
  | .zpy b  => { place := .mem (.addr (zpAdd s.params.zpWrap b s.y)), crossed := false }
  | .abs w  => { place := .mem (.addr w), crossed := false }
  | .absx w => s.indexed w s.x
  | .absy w => s.indexed w s.y
  | .indx b => { place := .mem (.addr (s.zpWord (zpAdd s.params.zpWrap b s.x))), crossed := false }
  | .indy b => s.indexed (s.zpWord (b.setWidth 16)) s.y

/-- `Operand(mode)` (R110). -/
def State.readPlace (s : State) : Place → Except Fault Byte
  | .value v => .ok v
  | .acc     => .ok s.a
  | .mem ea  => s.readAt ea

/-- `WriteBack(mode, r)` (R110). No instruction writes back to an immediate. -/
def State.writePlace (s : State) (v : Byte) : Place → State
  | .value _ => s
  | .acc     => { s with a := v }
  | .mem ea  => s.writeAt v ea

/-- The operand byte of a form: resolve, then read (R110). -/
def State.operand (s : State) (o : Operand) : Except Fault Byte := s.readPlace (s.resolve o).place

/-- The page-cross bit of a form (R111). -/
def State.crosses (s : State) (o : Operand) : Bool := (s.resolve o).crossed

/-! ## The four shapes of an instruction's step

`s` is the state at the instruction's opcode byte; no operand form uses `pc`, so resolving there is
resolving after the fetches. -/

/-- An instruction that reads an operand: resolve, read, apply, charge. -/
def readOp (i : Instr) (o : Operand) (apply : Byte → State → State) (s : State) : Outcome :=
  match s.operand o with
  | .error f => .fault f
  | .ok m    => (apply m (s.fetched i)).finish (i.cost (s.crosses o))

/-- An instruction that stores a byte without reading its operand (R173 to R175). -/
def storeOp (i : Instr) (o : Operand) (v : Byte) (s : State) : Outcome :=
  ((s.fetched i).writePlace v (s.resolve o).place).finish (i.cost (s.crosses o))

/-- A read-modify-write instruction (R140, R141, R184 to R187): read, compute, write back to the same
place, then set the flags. -/
def modifyOp (i : Instr) (o : Operand) (result : Byte → Byte) (flags : Byte → Flags → Flags) (s : State) :
    Outcome :=
  match s.operand o with
  | .error f => .fault f
  | .ok v    =>
    let s1 := (s.fetched i).writePlace (result v) (s.resolve o).place
    { s1 with flags := flags v s1.flags }.finish (i.cost (s.crosses o))

/-- An instruction with no operand in its encoding. -/
def impliedOp (i : Instr) (apply : State → State) (s : State) : Outcome :=
  (apply (s.fetched i)).finish (i.cost false)

end Sys2Proof.Machine
end

