-- ==== Sys2Proof/Machine/Arithmetic.lean ====
section
/-! DEFINITION. The arithmetic instructions (43_arithmetic.md). -/

namespace Sys2Proof.Machine

/-! ## Shared -/

/-- The decimal check of ADC and SBC (40_execute_loop.md R86): with D = 1 under `P_DECIMAL = refuse`
the step is refused before any operand fetch. -/
def decimalCheck (i : Instr) (s : State) (perform : Outcome) : Outcome :=
  if s.flags.d && s.params.decimal == .refuse then .refused (.decimal i.opcode s.pc) else perform

/-- Whether ADC and SBC compute decimal results (R86). -/
def State.decimalOn (s : State) : Bool := s.flags.d && s.params.decimal == .nmosBcd

/-- ADC on an operand byte (R135). -/
def adcApply (m : Byte) (s : State) : State :=
  if s.decimalOn then
    let r := aluAdcBcd s.a m s.flags.c
    { s with a := r.r, flags := { s.flags with c := r.c, z := r.z, v := r.v, n := r.n } }
  else
    let r := aluAdc s.a m s.flags.c
    { s with a := r.r, flags := { s.flags with c := r.c, v := r.v }.setZN r.r }

/-- SBC on an operand byte (R136): the flags are always those of the binary result. -/
def sbcApply (m : Byte) (s : State) : State :=
  let rb := aluSbc s.a m s.flags.c
  let r := if s.decimalOn then aluSbcBcd s.a m s.flags.c else rb.r
  { s with a := r, flags := { s.flags with c := rb.c, v := rb.v }.setZN rb.r }

/-- A compare of a register with an operand byte (R122): V is not written. -/
def cmpApply (reg m : Byte) (s : State) : State :=
  let r := aluCmp reg m
  { s with flags := { s.flags with c := r.c, z := r.z, n := r.n } }

/-- ADC (R135). -/
def opAdc (i : Instr) (o : Operand) (s : State) : Outcome := decimalCheck i s (readOp i o adcApply s)

/-- SBC (R136). -/
def opSbc (i : Instr) (o : Operand) (s : State) : Outcome := decimalCheck i s (readOp i o sbcApply s)

/-- CMP (R137). -/
def opCmp (i : Instr) (o : Operand) (s : State) : Outcome := readOp i o (cmpApply s.a) s

/-- CPX (R138). -/
def opCpx (i : Instr) (o : Operand) (s : State) : Outcome := readOp i o (cmpApply s.x) s

/-- CPY (R139). -/
def opCpy (i : Instr) (o : Operand) (s : State) : Outcome := readOp i o (cmpApply s.y) s

/-- INC (R140): C and V are unchanged. -/
def opInc (i : Instr) (o : Operand) (s : State) : Outcome :=
  modifyOp i o aluInc (fun v f => f.setZN (aluInc v)) s

/-- DEC (R141): C and V are unchanged. -/
def opDec (i : Instr) (o : Operand) (s : State) : Outcome :=
  modifyOp i o aluDec (fun v f => f.setZN (aluDec v)) s

/-- INX (R142). -/
def opInx (i : Instr) (s : State) : Outcome :=
  impliedOp i (fun s => { s with x := aluInc s.x }.setZN (aluInc s.x)) s

/-- INY (R143). -/
def opIny (i : Instr) (s : State) : Outcome :=
  impliedOp i (fun s => { s with y := aluInc s.y }.setZN (aluInc s.y)) s

/-- DEX (R144). -/
def opDex (i : Instr) (s : State) : Outcome :=
  impliedOp i (fun s => { s with x := aluDec s.x }.setZN (aluDec s.x)) s

/-- DEY (R145). -/
def opDey (i : Instr) (s : State) : Outcome :=
  impliedOp i (fun s => { s with y := aluDec s.y }.setZN (aluDec s.y)) s

/-! ## The instructions -/

/-- ADC immediate, 0x69 (R135). -/
def execAdcImm (b : Byte) (s : State) : Outcome := opAdc (.adcImm b) (.imm b) s

/-- ADC zero page, 0x65 (R135). -/
def execAdcZp (b : Byte) (s : State) : Outcome := opAdc (.adcZp b) (.zp b) s

/-- ADC zero page,X, 0x75 (R135). -/
def execAdcZpX (b : Byte) (s : State) : Outcome := opAdc (.adcZpX b) (.zpx b) s

/-- ADC absolute, 0x6D (R135). -/
def execAdcAbs (w : Word) (s : State) : Outcome := opAdc (.adcAbs w) (.abs w) s

/-- ADC absolute,X, 0x7D (R135). -/
def execAdcAbsX (w : Word) (s : State) : Outcome := opAdc (.adcAbsX w) (.absx w) s

/-- ADC absolute,Y, 0x79 (R135). -/
def execAdcAbsY (w : Word) (s : State) : Outcome := opAdc (.adcAbsY w) (.absy w) s

/-- ADC (zero page,X), 0x61 (R135). -/
def execAdcIndX (b : Byte) (s : State) : Outcome := opAdc (.adcIndX b) (.indx b) s

/-- ADC (zero page),Y, 0x71 (R135). -/
def execAdcIndY (b : Byte) (s : State) : Outcome := opAdc (.adcIndY b) (.indy b) s

/-- SBC immediate, 0xE9 (R136). -/
def execSbcImm (b : Byte) (s : State) : Outcome := opSbc (.sbcImm b) (.imm b) s

/-- SBC zero page, 0xE5 (R136). -/
def execSbcZp (b : Byte) (s : State) : Outcome := opSbc (.sbcZp b) (.zp b) s

/-- SBC zero page,X, 0xF5 (R136). -/
def execSbcZpX (b : Byte) (s : State) : Outcome := opSbc (.sbcZpX b) (.zpx b) s

/-- SBC absolute, 0xED (R136). -/
def execSbcAbs (w : Word) (s : State) : Outcome := opSbc (.sbcAbs w) (.abs w) s

/-- SBC absolute,X, 0xFD (R136). -/
def execSbcAbsX (w : Word) (s : State) : Outcome := opSbc (.sbcAbsX w) (.absx w) s

/-- SBC absolute,Y, 0xF9 (R136). -/
def execSbcAbsY (w : Word) (s : State) : Outcome := opSbc (.sbcAbsY w) (.absy w) s

/-- SBC (zero page,X), 0xE1 (R136). -/
def execSbcIndX (b : Byte) (s : State) : Outcome := opSbc (.sbcIndX b) (.indx b) s

/-- SBC (zero page),Y, 0xF1 (R136). -/
def execSbcIndY (b : Byte) (s : State) : Outcome := opSbc (.sbcIndY b) (.indy b) s

/-- CMP immediate, 0xC9 (R137). -/
def execCmpImm (b : Byte) (s : State) : Outcome := opCmp (.cmpImm b) (.imm b) s

/-- CMP zero page, 0xC5 (R137). -/
def execCmpZp (b : Byte) (s : State) : Outcome := opCmp (.cmpZp b) (.zp b) s

/-- CMP zero page,X, 0xD5 (R137). -/
def execCmpZpX (b : Byte) (s : State) : Outcome := opCmp (.cmpZpX b) (.zpx b) s

/-- CMP absolute, 0xCD (R137). -/
def execCmpAbs (w : Word) (s : State) : Outcome := opCmp (.cmpAbs w) (.abs w) s

/-- CMP absolute,X, 0xDD (R137). -/
def execCmpAbsX (w : Word) (s : State) : Outcome := opCmp (.cmpAbsX w) (.absx w) s

/-- CMP absolute,Y, 0xD9 (R137). -/
def execCmpAbsY (w : Word) (s : State) : Outcome := opCmp (.cmpAbsY w) (.absy w) s

/-- CMP (zero page,X), 0xC1 (R137). -/
def execCmpIndX (b : Byte) (s : State) : Outcome := opCmp (.cmpIndX b) (.indx b) s

/-- CMP (zero page),Y, 0xD1 (R137). -/
def execCmpIndY (b : Byte) (s : State) : Outcome := opCmp (.cmpIndY b) (.indy b) s

/-- CPX immediate, 0xE0 (R138). -/
def execCpxImm (b : Byte) (s : State) : Outcome := opCpx (.cpxImm b) (.imm b) s

/-- CPX zero page, 0xE4 (R138). -/
def execCpxZp (b : Byte) (s : State) : Outcome := opCpx (.cpxZp b) (.zp b) s

/-- CPX absolute, 0xEC (R138). -/
def execCpxAbs (w : Word) (s : State) : Outcome := opCpx (.cpxAbs w) (.abs w) s

/-- CPY immediate, 0xC0 (R139). -/
def execCpyImm (b : Byte) (s : State) : Outcome := opCpy (.cpyImm b) (.imm b) s

/-- CPY zero page, 0xC4 (R139). -/
def execCpyZp (b : Byte) (s : State) : Outcome := opCpy (.cpyZp b) (.zp b) s

/-- CPY absolute, 0xCC (R139). -/
def execCpyAbs (w : Word) (s : State) : Outcome := opCpy (.cpyAbs w) (.abs w) s

/-- INC zero page, 0xE6 (R140). -/
def execIncZp (b : Byte) (s : State) : Outcome := opInc (.incZp b) (.zp b) s

/-- INC zero page,X, 0xF6 (R140). -/
def execIncZpX (b : Byte) (s : State) : Outcome := opInc (.incZpX b) (.zpx b) s

/-- INC absolute, 0xEE (R140). -/
def execIncAbs (w : Word) (s : State) : Outcome := opInc (.incAbs w) (.abs w) s

/-- INC absolute,X, 0xFE (R140). -/
def execIncAbsX (w : Word) (s : State) : Outcome := opInc (.incAbsX w) (.absx w) s

/-- DEC zero page, 0xC6 (R141). -/
def execDecZp (b : Byte) (s : State) : Outcome := opDec (.decZp b) (.zp b) s

/-- DEC zero page,X, 0xD6 (R141). -/
def execDecZpX (b : Byte) (s : State) : Outcome := opDec (.decZpX b) (.zpx b) s

/-- DEC absolute, 0xCE (R141). -/
def execDecAbs (w : Word) (s : State) : Outcome := opDec (.decAbs w) (.abs w) s

/-- DEC absolute,X, 0xDE (R141). -/
def execDecAbsX (w : Word) (s : State) : Outcome := opDec (.decAbsX w) (.absx w) s

/-- INX implied, 0xE8 (R142). -/
def execInx (s : State) : Outcome := opInx .inx s

/-- INY implied, 0xC8 (R143). -/
def execIny (s : State) : Outcome := opIny .iny s

/-- DEX implied, 0xCA (R144). -/
def execDex (s : State) : Outcome := opDex .dex s

/-- DEY implied, 0x88 (R145). -/
def execDey (s : State) : Outcome := opDey .dey s

end Sys2Proof.Machine
end

