-- ==== Sys2Proof/Machine/Control.lean ====
section
/-! DEFINITION. The control-transfer instructions (44_control_transfer.md). -/

namespace Sys2Proof.Machine

/-! ## Shared -/

/-- JMP absolute (R150). -/
def opJmpAbs (i : Instr) (target : Word) (s : State) : Outcome :=
  impliedOp i (fun s => { s with pc := target }) s

/-- JMP indirect (R151): the second byte of the pointer is at `AddrAdd(ptr, 1)`, so there is no
page-wrap quirk (conflict C4). -/
def opJmpInd (i : Instr) (ptr : Word) (s : State) : Outcome :=
  match s.readWord ptr with
  | .error f   => .fault f
  | .ok target => { s.fetched i with pc := target }.finish (i.cost false)

/-- JSR (R152): the address of its own last byte is pushed. -/
def opJsr (i : Instr) (target : Word) (s : State) : Outcome :=
  impliedOp i (fun s => { s.pushWord (s.pc - 1) with pc := target }) s

/-- RTS (R153): the pulled address plus one. -/
def opRts (i : Instr) (s : State) : Outcome :=
  impliedOp i (fun s => { s.pullWord.2 with pc := s.pullWord.1 + 1 }) s

/-- The target of a branch from the next instruction's address (R108): it always wraps. -/
def branchTarget (next : Word) (off : Byte) : Word := next + off.signExtend 16

/-- The extra cycles of a branch (R154). -/
def branchExtra (taken : Bool) (next target : Word) : Nat :=
  if taken then 1 + (pageCross next (.addr target)).toNat else 0

/-- `Branch(cond)` (R154). -/
def branch (i : Instr) (off : Byte) (taken : Bool) (s : State) : Outcome :=
  let s1 := s.fetched i
  let target := branchTarget s1.pc off
  (if taken then { s1 with pc := target } else s1).finish (i.cost false + branchExtra taken s1.pc target)

/-! ## The instructions -/

/-- JMP absolute, 0x4C (R150). -/
def execJmpAbs (w : Word) (s : State) : Outcome := opJmpAbs (.jmpAbs w) w s

/-- JMP indirect, 0x6C (R151). -/
def execJmpInd (w : Word) (s : State) : Outcome := opJmpInd (.jmpInd w) w s

/-- JSR absolute, 0x20 (R152). -/
def execJsr (w : Word) (s : State) : Outcome := opJsr (.jsr w) w s

/-- RTS implied, 0x60 (R153). -/
def execRts (s : State) : Outcome := opRts .rts s

/-- BCC relative, 0x90 (R155). -/
def execBcc (off : Byte) (s : State) : Outcome := branch (.bcc off) off (!s.flags.c) s

/-- BCS relative, 0xB0 (R156). -/
def execBcs (off : Byte) (s : State) : Outcome := branch (.bcs off) off s.flags.c s

/-- BEQ relative, 0xF0 (R157). -/
def execBeq (off : Byte) (s : State) : Outcome := branch (.beq off) off s.flags.z s

/-- BMI relative, 0x30 (R158). -/
def execBmi (off : Byte) (s : State) : Outcome := branch (.bmi off) off s.flags.n s

/-- BNE relative, 0xD0 (R159). -/
def execBne (off : Byte) (s : State) : Outcome := branch (.bne off) off (!s.flags.z) s

/-- BPL relative, 0x10 (R160). -/
def execBpl (off : Byte) (s : State) : Outcome := branch (.bpl off) off (!s.flags.n) s

/-- BVC relative, 0x50 (R161). -/
def execBvc (off : Byte) (s : State) : Outcome := branch (.bvc off) off (!s.flags.v) s

/-- BVS relative, 0x70 (R162). -/
def execBvs (off : Byte) (s : State) : Outcome := branch (.bvs off) off s.flags.v s

end Sys2Proof.Machine
end

