-- ==== Sys2Proof/Machine/LoadStore.lean ====
section
/-! DEFINITION. The load and store instructions (45_load_store.md). -/

namespace Sys2Proof.Machine

/-! ## Shared -/

/-- LDA (R170). -/
def opLda (i : Instr) (o : Operand) (s : State) : Outcome :=
  readOp i o (fun m s => { s with a := m }.setZN m) s

/-- LDX (R171). -/
def opLdx (i : Instr) (o : Operand) (s : State) : Outcome :=
  readOp i o (fun m s => { s with x := m }.setZN m) s

/-- LDY (R172). -/
def opLdy (i : Instr) (o : Operand) (s : State) : Outcome :=
  readOp i o (fun m s => { s with y := m }.setZN m) s

/-- STA (R173). -/
def opSta (i : Instr) (o : Operand) (s : State) : Outcome := storeOp i o s.a s

/-- STX (R174). -/
def opStx (i : Instr) (o : Operand) (s : State) : Outcome := storeOp i o s.x s

/-- STY (R175). -/
def opSty (i : Instr) (o : Operand) (s : State) : Outcome := storeOp i o s.y s

/-! ## The instructions -/

/-- LDA immediate, 0xA9 (R170). -/
def execLdaImm (b : Byte) (s : State) : Outcome := opLda (.ldaImm b) (.imm b) s

/-- LDA zero page, 0xA5 (R170). -/
def execLdaZp (b : Byte) (s : State) : Outcome := opLda (.ldaZp b) (.zp b) s

/-- LDA zero page,X, 0xB5 (R170). -/
def execLdaZpX (b : Byte) (s : State) : Outcome := opLda (.ldaZpX b) (.zpx b) s

/-- LDA absolute, 0xAD (R170). -/
def execLdaAbs (w : Word) (s : State) : Outcome := opLda (.ldaAbs w) (.abs w) s

/-- LDA absolute,X, 0xBD (R170). -/
def execLdaAbsX (w : Word) (s : State) : Outcome := opLda (.ldaAbsX w) (.absx w) s

/-- LDA absolute,Y, 0xB9 (R170). -/
def execLdaAbsY (w : Word) (s : State) : Outcome := opLda (.ldaAbsY w) (.absy w) s

/-- LDA (zero page,X), 0xA1 (R170). -/
def execLdaIndX (b : Byte) (s : State) : Outcome := opLda (.ldaIndX b) (.indx b) s

/-- LDA (zero page),Y, 0xB1 (R170). -/
def execLdaIndY (b : Byte) (s : State) : Outcome := opLda (.ldaIndY b) (.indy b) s

/-- LDX immediate, 0xA2 (R171). -/
def execLdxImm (b : Byte) (s : State) : Outcome := opLdx (.ldxImm b) (.imm b) s

/-- LDX zero page, 0xA6 (R171). -/
def execLdxZp (b : Byte) (s : State) : Outcome := opLdx (.ldxZp b) (.zp b) s

/-- LDX zero page,Y, 0xB6 (R171). -/
def execLdxZpY (b : Byte) (s : State) : Outcome := opLdx (.ldxZpY b) (.zpy b) s

/-- LDX absolute, 0xAE (R171). -/
def execLdxAbs (w : Word) (s : State) : Outcome := opLdx (.ldxAbs w) (.abs w) s

/-- LDX absolute,Y, 0xBE (R171). -/
def execLdxAbsY (w : Word) (s : State) : Outcome := opLdx (.ldxAbsY w) (.absy w) s

/-- LDY immediate, 0xA0 (R172). -/
def execLdyImm (b : Byte) (s : State) : Outcome := opLdy (.ldyImm b) (.imm b) s

/-- LDY zero page, 0xA4 (R172). -/
def execLdyZp (b : Byte) (s : State) : Outcome := opLdy (.ldyZp b) (.zp b) s

/-- LDY zero page,X, 0xB4 (R172). -/
def execLdyZpX (b : Byte) (s : State) : Outcome := opLdy (.ldyZpX b) (.zpx b) s

/-- LDY absolute, 0xAC (R172). -/
def execLdyAbs (w : Word) (s : State) : Outcome := opLdy (.ldyAbs w) (.abs w) s

/-- LDY absolute,X, 0xBC (R172). -/
def execLdyAbsX (w : Word) (s : State) : Outcome := opLdy (.ldyAbsX w) (.absx w) s

/-- STA zero page, 0x85 (R173). -/
def execStaZp (b : Byte) (s : State) : Outcome := opSta (.staZp b) (.zp b) s

/-- STA zero page,X, 0x95 (R173). -/
def execStaZpX (b : Byte) (s : State) : Outcome := opSta (.staZpX b) (.zpx b) s

/-- STA absolute, 0x8D (R173). -/
def execStaAbs (w : Word) (s : State) : Outcome := opSta (.staAbs w) (.abs w) s

/-- STA absolute,X, 0x9D (R173). -/
def execStaAbsX (w : Word) (s : State) : Outcome := opSta (.staAbsX w) (.absx w) s

/-- STA absolute,Y, 0x99 (R173). -/
def execStaAbsY (w : Word) (s : State) : Outcome := opSta (.staAbsY w) (.absy w) s

/-- STA (zero page,X), 0x81 (R173). -/
def execStaIndX (b : Byte) (s : State) : Outcome := opSta (.staIndX b) (.indx b) s

/-- STA (zero page),Y, 0x91 (R173). -/
def execStaIndY (b : Byte) (s : State) : Outcome := opSta (.staIndY b) (.indy b) s

/-- STX zero page, 0x86 (R174). -/
def execStxZp (b : Byte) (s : State) : Outcome := opStx (.stxZp b) (.zp b) s

/-- STX zero page,Y, 0x96 (R174). -/
def execStxZpY (b : Byte) (s : State) : Outcome := opStx (.stxZpY b) (.zpy b) s

/-- STX absolute, 0x8E (R174). -/
def execStxAbs (w : Word) (s : State) : Outcome := opStx (.stxAbs w) (.abs w) s

/-- STY zero page, 0x84 (R175). -/
def execStyZp (b : Byte) (s : State) : Outcome := opSty (.styZp b) (.zp b) s

/-- STY zero page,X, 0x94 (R175). -/
def execStyZpX (b : Byte) (s : State) : Outcome := opSty (.styZpX b) (.zpx b) s

/-- STY absolute, 0x8C (R175). -/
def execStyAbs (w : Word) (s : State) : Outcome := opSty (.styAbs w) (.abs w) s

end Sys2Proof.Machine
end

