-- ==== Sys2Proof/Machine/LogicShift.lean ====
section
/-! DEFINITION. The logic, bit-test, shift and rotate instructions (46_logic_shift.md). -/

namespace Sys2Proof.Machine

/-! ## Shared -/

/-- A logic instruction: the result of A and the operand byte goes to A and sets Z and N (R127). -/
def logicOp (i : Instr) (o : Operand) (alu : Byte → Byte → Byte) (s : State) : Outcome :=
  readOp i o (fun m s => { s with a := alu s.a m }.setZN (alu s.a m)) s

/-- AND (R180). -/
def opAnd (i : Instr) (o : Operand) (s : State) : Outcome := logicOp i o (fun a m => a &&& m) s

/-- ORA (R181). -/
def opOra (i : Instr) (o : Operand) (s : State) : Outcome := logicOp i o (fun a m => a ||| m) s

/-- EOR (R182). -/
def opEor (i : Instr) (o : Operand) (s : State) : Outcome := logicOp i o (fun a m => a ^^^ m) s

/-- BIT (R183, R128): Z from the AND, N and V from the memory operand. -/
def opBit (i : Instr) (o : Operand) (s : State) : Outcome :=
  readOp i o (fun m s => { s with flags :=
    { s.flags with z := (s.a &&& m) == 0, n := m.getLsbD 7, v := m.getLsbD 6 } }) s

/-- A shift or rotate, whose ALU function is given C (R123 to R126): C, Z and N are written. -/
def shiftOp (i : Instr) (o : Operand) (alu : Byte → Bool → ShiftResult) (s : State) : Outcome :=
  modifyOp i o (fun v => (alu v s.flags.c).r)
    (fun v f => { f with c := (alu v s.flags.c).c }.setZN (alu v s.flags.c).r) s

/-- ASL (R184). -/
def opAsl (i : Instr) (o : Operand) (s : State) : Outcome := shiftOp i o (fun v _ => aluAsl v) s

/-- LSR (R185). -/
def opLsr (i : Instr) (o : Operand) (s : State) : Outcome := shiftOp i o (fun v _ => aluLsr v) s

/-- ROL (R186). -/
def opRol (i : Instr) (o : Operand) (s : State) : Outcome := shiftOp i o aluRol s

/-- ROR (R187). -/
def opRor (i : Instr) (o : Operand) (s : State) : Outcome := shiftOp i o aluRor s

/-! ## The instructions -/

/-- AND immediate, 0x29 (R180). -/
def execAndImm (b : Byte) (s : State) : Outcome := opAnd (.andImm b) (.imm b) s

/-- AND zero page, 0x25 (R180). -/
def execAndZp (b : Byte) (s : State) : Outcome := opAnd (.andZp b) (.zp b) s

/-- AND zero page,X, 0x35 (R180). -/
def execAndZpX (b : Byte) (s : State) : Outcome := opAnd (.andZpX b) (.zpx b) s

/-- AND absolute, 0x2D (R180). -/
def execAndAbs (w : Word) (s : State) : Outcome := opAnd (.andAbs w) (.abs w) s

/-- AND absolute,X, 0x3D (R180). -/
def execAndAbsX (w : Word) (s : State) : Outcome := opAnd (.andAbsX w) (.absx w) s

/-- AND absolute,Y, 0x39 (R180). -/
def execAndAbsY (w : Word) (s : State) : Outcome := opAnd (.andAbsY w) (.absy w) s

/-- AND (zero page,X), 0x21 (R180). -/
def execAndIndX (b : Byte) (s : State) : Outcome := opAnd (.andIndX b) (.indx b) s

/-- AND (zero page),Y, 0x31 (R180). -/
def execAndIndY (b : Byte) (s : State) : Outcome := opAnd (.andIndY b) (.indy b) s

/-- ORA immediate, 0x09 (R181). -/
def execOraImm (b : Byte) (s : State) : Outcome := opOra (.oraImm b) (.imm b) s

/-- ORA zero page, 0x05 (R181). -/
def execOraZp (b : Byte) (s : State) : Outcome := opOra (.oraZp b) (.zp b) s

/-- ORA zero page,X, 0x15 (R181). -/
def execOraZpX (b : Byte) (s : State) : Outcome := opOra (.oraZpX b) (.zpx b) s

/-- ORA absolute, 0x0D (R181). -/
def execOraAbs (w : Word) (s : State) : Outcome := opOra (.oraAbs w) (.abs w) s

/-- ORA absolute,X, 0x1D (R181). -/
def execOraAbsX (w : Word) (s : State) : Outcome := opOra (.oraAbsX w) (.absx w) s

/-- ORA absolute,Y, 0x19 (R181). -/
def execOraAbsY (w : Word) (s : State) : Outcome := opOra (.oraAbsY w) (.absy w) s

/-- ORA (zero page,X), 0x01 (R181). -/
def execOraIndX (b : Byte) (s : State) : Outcome := opOra (.oraIndX b) (.indx b) s

/-- ORA (zero page),Y, 0x11 (R181). -/
def execOraIndY (b : Byte) (s : State) : Outcome := opOra (.oraIndY b) (.indy b) s

/-- EOR immediate, 0x49 (R182). -/
def execEorImm (b : Byte) (s : State) : Outcome := opEor (.eorImm b) (.imm b) s

/-- EOR zero page, 0x45 (R182). -/
def execEorZp (b : Byte) (s : State) : Outcome := opEor (.eorZp b) (.zp b) s

/-- EOR zero page,X, 0x55 (R182). -/
def execEorZpX (b : Byte) (s : State) : Outcome := opEor (.eorZpX b) (.zpx b) s

/-- EOR absolute, 0x4D (R182). -/
def execEorAbs (w : Word) (s : State) : Outcome := opEor (.eorAbs w) (.abs w) s

/-- EOR absolute,X, 0x5D (R182). -/
def execEorAbsX (w : Word) (s : State) : Outcome := opEor (.eorAbsX w) (.absx w) s

/-- EOR absolute,Y, 0x59 (R182). -/
def execEorAbsY (w : Word) (s : State) : Outcome := opEor (.eorAbsY w) (.absy w) s

/-- EOR (zero page,X), 0x41 (R182). -/
def execEorIndX (b : Byte) (s : State) : Outcome := opEor (.eorIndX b) (.indx b) s

/-- EOR (zero page),Y, 0x51 (R182). -/
def execEorIndY (b : Byte) (s : State) : Outcome := opEor (.eorIndY b) (.indy b) s

/-- BIT zero page, 0x24 (R183). -/
def execBitZp (b : Byte) (s : State) : Outcome := opBit (.bitZp b) (.zp b) s

/-- BIT absolute, 0x2C (R183). -/
def execBitAbs (w : Word) (s : State) : Outcome := opBit (.bitAbs w) (.abs w) s

/-- ASL accumulator, 0x0A (R184). -/
def execAslAcc (s : State) : Outcome := opAsl .aslAcc .acc s

/-- ASL zero page, 0x06 (R184). -/
def execAslZp (b : Byte) (s : State) : Outcome := opAsl (.aslZp b) (.zp b) s

/-- ASL zero page,X, 0x16 (R184). -/
def execAslZpX (b : Byte) (s : State) : Outcome := opAsl (.aslZpX b) (.zpx b) s

/-- ASL absolute, 0x0E (R184). -/
def execAslAbs (w : Word) (s : State) : Outcome := opAsl (.aslAbs w) (.abs w) s

/-- ASL absolute,X, 0x1E (R184). -/
def execAslAbsX (w : Word) (s : State) : Outcome := opAsl (.aslAbsX w) (.absx w) s

/-- LSR accumulator, 0x4A (R185). -/
def execLsrAcc (s : State) : Outcome := opLsr .lsrAcc .acc s

/-- LSR zero page, 0x46 (R185). -/
def execLsrZp (b : Byte) (s : State) : Outcome := opLsr (.lsrZp b) (.zp b) s

/-- LSR zero page,X, 0x56 (R185). -/
def execLsrZpX (b : Byte) (s : State) : Outcome := opLsr (.lsrZpX b) (.zpx b) s

/-- LSR absolute, 0x4E (R185). -/
def execLsrAbs (w : Word) (s : State) : Outcome := opLsr (.lsrAbs w) (.abs w) s

/-- LSR absolute,X, 0x5E (R185). -/
def execLsrAbsX (w : Word) (s : State) : Outcome := opLsr (.lsrAbsX w) (.absx w) s

/-- ROL accumulator, 0x2A (R186). -/
def execRolAcc (s : State) : Outcome := opRol .rolAcc .acc s

/-- ROL zero page, 0x26 (R186). -/
def execRolZp (b : Byte) (s : State) : Outcome := opRol (.rolZp b) (.zp b) s

/-- ROL zero page,X, 0x36 (R186). -/
def execRolZpX (b : Byte) (s : State) : Outcome := opRol (.rolZpX b) (.zpx b) s

/-- ROL absolute, 0x2E (R186). -/
def execRolAbs (w : Word) (s : State) : Outcome := opRol (.rolAbs w) (.abs w) s

/-- ROL absolute,X, 0x3E (R186). -/
def execRolAbsX (w : Word) (s : State) : Outcome := opRol (.rolAbsX w) (.absx w) s

/-- ROR accumulator, 0x6A (R187). -/
def execRorAcc (s : State) : Outcome := opRor .rorAcc .acc s

/-- ROR zero page, 0x66 (R187). -/
def execRorZp (b : Byte) (s : State) : Outcome := opRor (.rorZp b) (.zp b) s

/-- ROR zero page,X, 0x76 (R187). -/
def execRorZpX (b : Byte) (s : State) : Outcome := opRor (.rorZpX b) (.zpx b) s

/-- ROR absolute, 0x6E (R187). -/
def execRorAbs (w : Word) (s : State) : Outcome := opRor (.rorAbs w) (.abs w) s

/-- ROR absolute,X, 0x7E (R187). -/
def execRorAbsX (w : Word) (s : State) : Outcome := opRor (.rorAbsX w) (.absx w) s

end Sys2Proof.Machine
end

