-- ==== Sys2Proof/Machine/StackTransferFlag.lean ====
section
/-! DEFINITION. The stack, register-transfer, flag and no-operation instructions (47_stack_transfer_flag.md).
Each is one byte, implied; its effect applies to the state with `pc` past it. -/

namespace Sys2Proof.Machine

/-- PHA, 0x48: push accumulator (R190). -/
def execPha (s : State) : Outcome :=
  impliedOp .pha (fun s => s.push s.a) s

/-- PHP, 0x08: push processor status (R191): the stored B is not read. -/
def execPhp (s : State) : Outcome :=
  impliedOp .php (fun s => s.push s.flags.packForPush) s

/-- PLA, 0x68: pull accumulator (R192). -/
def execPla (s : State) : Outcome :=
  impliedOp .pla (fun s => { s.pull.2 with a := s.pull.1 }.setZN s.pull.1) s

/-- PLP, 0x28: pull processor status (R193): B is unchanged. -/
def execPlp (s : State) : Outcome :=
  impliedOp .plp (fun s => { s.pull.2 with flags := s.flags.unpack s.pull.1 }) s

/-- TAX, 0xAA (R194). -/
def execTax (s : State) : Outcome :=
  impliedOp .tax (fun s => { s with x := s.a }.setZN s.a) s

/-- TAY, 0xA8 (R195). -/
def execTay (s : State) : Outcome :=
  impliedOp .tay (fun s => { s with y := s.a }.setZN s.a) s

/-- TXA, 0x8A (R196). -/
def execTxa (s : State) : Outcome :=
  impliedOp .txa (fun s => { s with a := s.x }.setZN s.x) s

/-- TYA, 0x98 (R197). -/
def execTya (s : State) : Outcome :=
  impliedOp .tya (fun s => { s with a := s.y }.setZN s.y) s

/-- TSX, 0xBA (R198). -/
def execTsx (s : State) : Outcome :=
  impliedOp .tsx (fun s => { s with x := s.sp }.setZN s.sp) s

/-- TXS, 0x9A (R199): no flag is written. -/
def execTxs (s : State) : Outcome :=
  impliedOp .txs (fun s => { s with sp := s.x }) s

/-- CLC, 0x18 (R200). -/
def execClc (s : State) : Outcome :=
  impliedOp .clc (fun s => { s with flags := { s.flags with c := false } }) s

/-- SEC, 0x38 (R201). -/
def execSec (s : State) : Outcome :=
  impliedOp .sec (fun s => { s with flags := { s.flags with c := true } }) s

/-- CLI, 0x58 (R202). -/
def execCli (s : State) : Outcome :=
  impliedOp .cli (fun s => { s with flags := { s.flags with i := false } }) s

/-- SEI, 0x78 (R203). -/
def execSei (s : State) : Outcome :=
  impliedOp .sei (fun s => { s with flags := { s.flags with i := true } }) s

/-- CLD, 0xD8 (R204). -/
def execCld (s : State) : Outcome :=
  impliedOp .cld (fun s => { s with flags := { s.flags with d := false } }) s

/-- SED, 0xF8 (R205). -/
def execSed (s : State) : Outcome :=
  impliedOp .sed (fun s => { s with flags := { s.flags with d := true } }) s

/-- CLV, 0xB8 (R206). -/
def execClv (s : State) : Outcome :=
  impliedOp .clv (fun s => { s with flags := { s.flags with v := false } }) s

/-- NOP, 0xEA (R207): only `pc` changes. -/
def execNop (s : State) : Outcome :=
  impliedOp .nop (fun s => s) s

end Sys2Proof.Machine
end

