-- ==== Sys2Proof/Machine/System.lean ====
section
/-! DEFINITION. The system instructions (48_system.md). -/

namespace Sys2Proof.Machine

/-- BRK implied, 0x00 (R215): the trap, with the return address past the padding byte. It is taken
whatever I is (60_exceptions.md R224). -/
def execBrk (s : State) : Outcome := impliedOp .brk (fun s => s.takeTrap (s.pc + 1)) s

/-- RTI implied, 0x40 (R216). -/
def execRti (s : State) : Outcome := impliedOp .rti (fun s => s.returnFromTrap) s

end Sys2Proof.Machine
end

