-- ==== Sys2Proof/Machine/Fetch.lean ====
section
/-! DEFINITION. What a step does around the instruction it runs (40_execute_loop.md R76): the stops that come before any
fetch, fetching and decoding, the budget check, and the unrecognized opcode. -/

namespace Sys2Proof.Machine

/-- The stop of a state in which no step runs: after a fatal (10_state.md R31, 60_exceptions.md R230;
log 7), after a refusal (R221; log 8), and before the first reset (R79; log 9). -/
def State.stopped (s : State) : Option Outcome :=
  match s.fatal with
  | some f => some (.fault f)
  | none   =>
    match s.refused with
    | some r => some (.refused r)
    | none   => if s.resetDone then none else some (.refused .notReset)

/-- The instruction at `pc`: the decoder on the bytes that fetching gives (log 11). -/
def State.decodeAt (s : State) : Except DecodeError Instr :=
  match decode s.params.opcodeSet s.wordOrder (s.fetchBytes 3) with
  | .ok (i, _) => .ok i
  | .error e   => .error e

/-- The number of times an unrecognized opcode must occur to be fatal (R6, R83). -/
abbrev illegalThreshold : Nat := 10

/-- The effects of an unrecognized opcode (R83): one cycle, `pc` past it, the event and the count. -/
def State.countUnrecognized (s : State) : State :=
  { s with pc := s.pc + 1, illegalCount := s.illegalCount + 1,
           events := s.events ++ [Event.unrecognized (s.read s.pc) s.pc] }.charge 1

/-- The step of an unrecognized opcode (R83): the 10th is fatal. -/
def unrecognizedStep (s : State) : Outcome :=
  if s.countUnrecognized.illegalCount = illegalThreshold then
    .fault (.illegalLimit (s.read s.pc) s.pc)
  else .next s.countUnrecognized

/-- Whether the budget left is too small to start the instruction (R82); with no execute call running
there is no budget to fall short of (log 5). -/
def State.fallsShort (s : State) (i : Instr) : Bool :=
  match s.params.shortfall, s.budget with
  | .fault, some b => decide (b < (i.entry.base : Int))
  | _, _           => false

/-- The fatal of a budget shortfall (R82). -/
def shortfallStep (s : State) : Outcome := .fault (.budgetShortfall (s.read s.pc) s.pc)

end Sys2Proof.Machine
end

