-- ==== Sys2Proof/Machine/Step.lean ====
section
/-! DEFINITION. One step (40_execute_loop.md R76): the execution of one instruction.
The loop test of an execute call is not part of a step; `State.execute` makes it (R78, log 5). -/

namespace Sys2Proof.Machine

/-- `Step()` (R76), in the order of R77 and R225. -/
def step (s : State) : Host.Outcome State Fault Refusal :=
  match s.stopped with
  | some stop => stop
  | none      =>
    match s.decodeAt with
    | .error _ => unrecognizedStep s
    | .ok i    => if s.fallsShort i then shortfallStep s else exec i s

/-- The state with an instruction's bytes stored where the next step fetches it, at `pc`: what the
host's memory writes do after a reset (70_reset_and_hazards.md R242, log 15). -/
def State.withFetchWord (s : State) (nbits w : Nat) : State := s.writeBytes s.pc (tableBytes nbits w)

end Sys2Proof.Machine
end

