-- ==== Sys2Proof/Machine/HostPort.lean ====
section
/-! DEFINITION. What the host can do to the block (70_reset_and_hazards.md R245): configure the byte order, reset, use
the memory port, read and write registers and flags, and call execute; and the state a fatal or a refusal leaves
(60_exceptions.md R227). -/

namespace Sys2Proof.Machine

/-! ## The numeric codes (R220 to R222) -/

/-- The code of a fatal reason (R220). -/
def Fault.code : Fault → Nat
  | .readRange _         => 1
  | .illegalLimit _ _    => 2
  | .budgetShortfall _ _ => 3

/-- The code of a refusal (R221); the model's own refusal has none (log 21). -/
def Refusal.code : Refusal → Option Nat
  | .decimal _ _ => some 16
  | .notReset    => some 17
  | _            => none

/-- The code of an event (R222). -/
def Event.code : Event → Nat
  | .unrecognized _ _ => 32

/-- The status of a host memory write (R44, R222). -/
inductive WriteStatus where
  | ok
  | failed
  deriving DecidableEq, Repr

/-- The code of a write status (R222). -/
def WriteStatus.code : WriteStatus → Nat
  | .ok     => 0
  | .failed => 1

/-! ## Power-on and reset -/

/-- The state at power-on: no reset yet (R34), the counter 0 (R30), no latch set (R31).
The spec gives the rest no value before the first reset (log 10). -/
def State.powerOn : State := { State.reset with resetDone := false }

/-- A reset starts a session (R241): a byte order set for it beforehand stands (R242), and one that a
session has already run under may be set anew (R245; log 23). -/
def OrderSetup.afterReset : OrderSetup → OrderSetup
  | .awaited => .awaited
  | .chosen  => .chosen
  | .locked  => .awaited

/-- `reset()` (R240): no effect after a fatal. -/
def State.resetOp (s : State) : State :=
  match s.fatal with
  | some _ => s
  | none   =>
    let v := s.params.init
    { s with
      pc := 0xFFFC, sp := 0xFF, a := v.a, x := v.x, y := v.y,
      flags := { c := v.c, z := v.z, i := true, d := false, b := v.b, v := v.v, n := v.n },
      mem := [], orderSetup := s.orderSetup.afterReset, resetDone := true, budget := none }

/-! ## Between execute calls -/

/-- Whether the host has a move (R37, R245): no execute call is running and no fatal has ended the
block (R230; log 17). -/
def State.hostMayAct (s : State) : Bool := s.budget.isNone && s.fatal.isNone

/-- The endianness modes the host may ask for (R45). -/
inductive EndianMode where
  | big
  | little
  | auto
  deriving DecidableEq, Repr

/-- `Auto` is the byte order of the host that makes the call (R45; log 20). -/
def EndianMode.resolve (native : WordOrder) : EndianMode → WordOrder
  | .big    => .big
  | .little => .little
  | .auto   => native

/-- Configuring the byte order (R45, R245): once, and before the session's first execute call; `none`
where the host has no such move (log 23). -/
def State.hostConfigure (s : State) (native : WordOrder) (m : EndianMode) : Option State :=
  if s.hostMayAct && s.orderSetup == .awaited then
    some { s with wordOrder := m.resolve native, orderSetup := .chosen }
  else none

/-- The host's reset (R245): allowed while no fatal is latched, and not while a call runs. -/
def State.hostReset (s : State) : Option State := if s.hostMayAct then some s.resetOp else none

/-- What the host's read port answers (R44). -/
inductive HostRead where
  | byte (v : Byte)
  | fatal (f : Fault)
  deriving DecidableEq, Repr

/-- The host's read port (R44), at any natural-number address: out of range it is fatal,
and the latch is set (log 19). -/
def State.hostRead (s : State) (n : Nat) : Option (HostRead × State) :=
  if s.hostMayAct then
    if n < memCapacity then some (.byte (s.mem.read n), s)
    else some (.fatal (.readRange n), { s with fatal := some (.readRange n) })
  else none

/-- The host's write port (R44): out of range it changes nothing and says so. -/
def State.hostWrite (s : State) (n : Nat) (v : Byte) : Option (WriteStatus × State) :=
  if s.hostMayAct then
    if n < memCapacity then some (.ok, { s with mem := s.mem.write n v })
    else some (.failed, s)
  else none

/-- The registers and flags the host can name (R37). -/
inductive HostReg where
  | a | x | y | sp | pc | c | z | i | d | b | v | n
  deriving DecidableEq, Repr

/-- A register or flag as the host reads it. -/
def State.regValue (s : State) : HostReg → Nat
  | .a  => s.a.toNat
  | .x  => s.x.toNat
  | .y  => s.y.toNat
  | .sp => s.sp.toNat
  | .pc => s.pc.toNat
  | .c  => s.flags.c.toNat
  | .z  => s.flags.z.toNat
  | .i  => s.flags.i.toNat
  | .d  => s.flags.d.toNat
  | .b  => s.flags.b.toNat
  | .v  => s.flags.v.toNat
  | .n  => s.flags.n.toNat

/-- A host value as a flag, modulo its width of one bit (R37; log 18). -/
def flagOf (k : Nat) : Bool := k % 2 == 1

/-- A register or flag set to a host value, modulo its width (R37, D25). -/
def State.setReg (s : State) (k : Nat) : HostReg → State
  | .a  => { s with a := BitVec.ofNat 8 k }
  | .x  => { s with x := BitVec.ofNat 8 k }
  | .y  => { s with y := BitVec.ofNat 8 k }
  | .sp => { s with sp := BitVec.ofNat 8 k }
  | .pc => { s with pc := BitVec.ofNat 16 k }
  | .c  => { s with flags := { s.flags with c := flagOf k } }
  | .z  => { s with flags := { s.flags with z := flagOf k } }
  | .i  => { s with flags := { s.flags with i := flagOf k } }
  | .d  => { s with flags := { s.flags with d := flagOf k } }
  | .b  => { s with flags := { s.flags with b := flagOf k } }
  | .v  => { s with flags := { s.flags with v := flagOf k } }
  | .n  => { s with flags := { s.flags with n := flagOf k } }

/-- The host's register read (R245). -/
def State.hostReadReg (s : State) (r : HostReg) : Option Nat :=
  if s.hostMayAct then some (s.regValue r) else none

/-- The host's register write (R37, R245). -/
def State.hostWriteReg (s : State) (r : HostReg) (k : Nat) : Option State :=
  if s.hostMayAct then some (s.setReg k r) else none

/-! ## The state a stop leaves -/

/-- The state at a fatal raised by the step of `s` (R227): `s`, but `pc` past the bytes fetched so far,
and for the illegal limit the charge, the event and the count; the latch is set (R31; logs 7, 22). -/
def State.afterFatal (s : State) (f : Fault) : State :=
  let s1 : State := match f with
    | .illegalLimit _ _    => s.countUnrecognized
    | .budgetShortfall _ _ => { s with pc := s.pc + 1 }
    | .readRange _         =>
      match s.decodeAt with
      | .ok i    => s.fetched i
      | .error _ => s
  { s1 with fatal := some f }

/-- The state at a refusal of the step of `s`: the decimal refusal comes after the opcode fetch (R86),
the not-reset one before any step (R79); the mark is set (R221). -/
def State.afterRefusal (s : State) (r : Refusal) : State :=
  let s1 : State := match r with
    | .decimal _ _ => { s with pc := s.pc + 1 }
    | _            => s
  { s1 with refused := some r }

/-! ## The execute call -/

/-- How an execute call ends (R85). -/
inductive ExecuteEnd where
  | returned (budget : Int)
  | fatal (f : Fault)
  | refused (r : Refusal)
  deriving DecidableEq, Repr

/-- The end of a call; the budget exists no longer (R32). -/
def State.endCall (s : State) (e : ExecuteEnd) : ExecuteEnd × State := (e, { s with budget := none })

/-- The budget of the running call, 0 where none runs. -/
def State.budgetLeft (s : State) : Int := s.budget.getD 0

/-- The loop of R78, `while budget > 0: Step()`. Every step charges at least one cycle, so a call with
budget `n` makes at most `n` steps: the first argument bounds them (log 14). -/
def State.executeLoop : Nat → State → ExecuteEnd × State
  | 0, s     => s.endCall (.returned s.budgetLeft)
  | k + 1, s =>
    if 0 < s.budgetLeft then
      match step s with
      | .next s'   => State.executeLoop k s'
      | .fault f   => (s.afterFatal f).endCall (.fatal f)
      | .refused r => (s.afterRefusal r).endCall (.refused r)
    else s.endCall (.returned s.budgetLeft)

/-- `execute(n)` (R78). After a fatal nothing runs (R230), a set refusal mark refuses again (R221, log 8),
and a call before the first reset is refused (R79). A call that starts ends the time in which the host may
set the byte order (R45, R245; log 23). -/
def State.execute (s : State) (n : Nat) : ExecuteEnd × State :=
  match s.fatal, s.refused with
  | some f, _    => (.fatal f, s)
  | none, some r => (.refused r, s)
  | none, none   =>
    if s.resetDone then State.executeLoop n { s with budget := some (n : Int), orderSetup := .locked }
    else (.refused .notReset, s.afterRefusal .notReset)

/-- The host's execute call (R245): not while another call runs, and none follows a fatal (R230). -/
def State.hostExecute (s : State) (n : Nat) : Option (ExecuteEnd × State) :=
  if s.hostMayAct then some (s.execute n) else none

end Sys2Proof.Machine
end

