-- ==== Sys2Proof/Safety.lean ====
section
/-! DEFINITION. What counts as a sound state and a safe run, in the terms claims use. -/

namespace Sys2Proof.Machine

/-- A sound state of a session: memory in its canonical form, a reset behind it, no latch set, the
counter below the limit (10_state.md R30), and one event for each count (40_execute_loop.md R83). -/
abbrev State.Inv (s : State) : Prop :=
  s.mem.wf = true ∧ s.resetDone = true ∧ s.fatal = none ∧ s.refused = none ∧
    s.illegalCount < illegalThreshold ∧ s.events.length = s.illegalCount

/-- The next state of an outcome, where it has one. -/
def nextOf : Outcome → Option State
  | .next s    => some s
  | .fault _   => none
  | .refused _ => none

/-- A run of `k` steps from `s` is safe when each of them answers a next state. -/
def State.runsSafely : Nat → State → Bool
  | 0, _     => true
  | k + 1, s =>
    match step s with
    | .next s'   => State.runsSafely k s'
    | .fault _   => false
    | .refused _ => false

end Sys2Proof.Machine
end

