-- ==== Sys2Proof/Certificates/Slice0/Obligations.lean ====
section
/-! DEFINITION. The statements for the provers. `Obligations.<Name>` is a statement; what stands under `Sys2Proof.Claims` are the
words the statements are written in: the instruction tables of the spec's families, and the plain
reading of "advance `pc` and charge". -/

namespace Sys2Proof.Claims

open Sys2Proof.Machine

/-- One row of an instruction's encoding table (43 to 48): the instruction, its operand form, and the
opcode, bytes, cycles and page penalty the table gives it. -/
structure Form where
  instr   : Instr
  operand : Operand
  opcode  : Byte
  bytes   : Nat
  cycles  : Nat
  pen     : Bool
  deriving DecidableEq, Repr

/-- The forms of ADC, from the table of R135. -/
def adcForms (b : Byte) (w : Word) : List Form :=
  [⟨.adcImm b, .imm b, 0x69, 2, 2, false⟩, ⟨.adcZp b, .zp b, 0x65, 2, 3, false⟩,
   ⟨.adcZpX b, .zpx b, 0x75, 2, 4, false⟩, ⟨.adcAbs w, .abs w, 0x6D, 3, 4, false⟩,
   ⟨.adcAbsX w, .absx w, 0x7D, 3, 4, true⟩, ⟨.adcAbsY w, .absy w, 0x79, 3, 4, true⟩,
   ⟨.adcIndX b, .indx b, 0x61, 2, 6, false⟩, ⟨.adcIndY b, .indy b, 0x71, 2, 5, true⟩]

/-- The forms of SBC, from the table of R136. -/
def sbcForms (b : Byte) (w : Word) : List Form :=
  [⟨.sbcImm b, .imm b, 0xE9, 2, 2, false⟩, ⟨.sbcZp b, .zp b, 0xE5, 2, 3, false⟩,
   ⟨.sbcZpX b, .zpx b, 0xF5, 2, 4, false⟩, ⟨.sbcAbs w, .abs w, 0xED, 3, 4, false⟩,
   ⟨.sbcAbsX w, .absx w, 0xFD, 3, 4, true⟩, ⟨.sbcAbsY w, .absy w, 0xF9, 3, 4, true⟩,
   ⟨.sbcIndX b, .indx b, 0xE1, 2, 6, false⟩, ⟨.sbcIndY b, .indy b, 0xF1, 2, 5, true⟩]

/-- The forms of CMP, from the table of R137. -/
def cmpForms (b : Byte) (w : Word) : List Form :=
  [⟨.cmpImm b, .imm b, 0xC9, 2, 2, false⟩, ⟨.cmpZp b, .zp b, 0xC5, 2, 3, false⟩,
   ⟨.cmpZpX b, .zpx b, 0xD5, 2, 4, false⟩, ⟨.cmpAbs w, .abs w, 0xCD, 3, 4, false⟩,
   ⟨.cmpAbsX w, .absx w, 0xDD, 3, 4, true⟩, ⟨.cmpAbsY w, .absy w, 0xD9, 3, 4, true⟩,
   ⟨.cmpIndX b, .indx b, 0xC1, 2, 6, false⟩, ⟨.cmpIndY b, .indy b, 0xD1, 2, 5, true⟩]

/-- The forms of CPX, from the table of R138. -/
def cpxForms (b : Byte) (w : Word) : List Form :=
  [⟨.cpxImm b, .imm b, 0xE0, 2, 2, false⟩, ⟨.cpxZp b, .zp b, 0xE4, 2, 3, false⟩,
   ⟨.cpxAbs w, .abs w, 0xEC, 3, 4, false⟩]

/-- The forms of CPY, from the table of R139. -/
def cpyForms (b : Byte) (w : Word) : List Form :=
  [⟨.cpyImm b, .imm b, 0xC0, 2, 2, false⟩, ⟨.cpyZp b, .zp b, 0xC4, 2, 3, false⟩,
   ⟨.cpyAbs w, .abs w, 0xCC, 3, 4, false⟩]

/-- The forms of INC, from the table of R140. -/
def incForms (b : Byte) (w : Word) : List Form :=
  [⟨.incZp b, .zp b, 0xE6, 2, 5, false⟩, ⟨.incZpX b, .zpx b, 0xF6, 2, 6, false⟩,
   ⟨.incAbs w, .abs w, 0xEE, 3, 6, false⟩, ⟨.incAbsX w, .absx w, 0xFE, 3, 7, false⟩]

/-- The forms of DEC, from the table of R141. -/
def decForms (b : Byte) (w : Word) : List Form :=
  [⟨.decZp b, .zp b, 0xC6, 2, 5, false⟩, ⟨.decZpX b, .zpx b, 0xD6, 2, 6, false⟩,
   ⟨.decAbs w, .abs w, 0xCE, 3, 6, false⟩, ⟨.decAbsX w, .absx w, 0xDE, 3, 7, false⟩]

/-- The forms of LDA, from the table of R170. -/
def ldaForms (b : Byte) (w : Word) : List Form :=
  [⟨.ldaImm b, .imm b, 0xA9, 2, 2, false⟩, ⟨.ldaZp b, .zp b, 0xA5, 2, 3, false⟩,
   ⟨.ldaZpX b, .zpx b, 0xB5, 2, 4, false⟩, ⟨.ldaAbs w, .abs w, 0xAD, 3, 4, false⟩,
   ⟨.ldaAbsX w, .absx w, 0xBD, 3, 4, true⟩, ⟨.ldaAbsY w, .absy w, 0xB9, 3, 4, true⟩,
   ⟨.ldaIndX b, .indx b, 0xA1, 2, 6, false⟩, ⟨.ldaIndY b, .indy b, 0xB1, 2, 5, true⟩]

/-- The forms of LDX, from the table of R171. -/
def ldxForms (b : Byte) (w : Word) : List Form :=
  [⟨.ldxImm b, .imm b, 0xA2, 2, 2, false⟩, ⟨.ldxZp b, .zp b, 0xA6, 2, 3, false⟩,
   ⟨.ldxZpY b, .zpy b, 0xB6, 2, 4, false⟩, ⟨.ldxAbs w, .abs w, 0xAE, 3, 4, false⟩,
   ⟨.ldxAbsY w, .absy w, 0xBE, 3, 4, true⟩]

/-- The forms of LDY, from the table of R172. -/
def ldyForms (b : Byte) (w : Word) : List Form :=
  [⟨.ldyImm b, .imm b, 0xA0, 2, 2, false⟩, ⟨.ldyZp b, .zp b, 0xA4, 2, 3, false⟩,
   ⟨.ldyZpX b, .zpx b, 0xB4, 2, 4, false⟩, ⟨.ldyAbs w, .abs w, 0xAC, 3, 4, false⟩,
   ⟨.ldyAbsX w, .absx w, 0xBC, 3, 4, true⟩]

/-- The forms of STA, from the table of R173. -/
def staForms (b : Byte) (w : Word) : List Form :=
  [⟨.staZp b, .zp b, 0x85, 2, 3, false⟩, ⟨.staZpX b, .zpx b, 0x95, 2, 4, false⟩,
   ⟨.staAbs w, .abs w, 0x8D, 3, 4, false⟩, ⟨.staAbsX w, .absx w, 0x9D, 3, 5, false⟩,
   ⟨.staAbsY w, .absy w, 0x99, 3, 5, false⟩, ⟨.staIndX b, .indx b, 0x81, 2, 6, false⟩,
   ⟨.staIndY b, .indy b, 0x91, 2, 6, false⟩]

/-- The forms of STX, from the table of R174. -/
def stxForms (b : Byte) (w : Word) : List Form :=
  [⟨.stxZp b, .zp b, 0x86, 2, 3, false⟩, ⟨.stxZpY b, .zpy b, 0x96, 2, 4, false⟩,
   ⟨.stxAbs w, .abs w, 0x8E, 3, 4, false⟩]

/-- The forms of STY, from the table of R175. -/
def styForms (b : Byte) (w : Word) : List Form :=
  [⟨.styZp b, .zp b, 0x84, 2, 3, false⟩, ⟨.styZpX b, .zpx b, 0x94, 2, 4, false⟩,
   ⟨.styAbs w, .abs w, 0x8C, 3, 4, false⟩]

/-- The forms of AND, from the table of R180. -/
def andForms (b : Byte) (w : Word) : List Form :=
  [⟨.andImm b, .imm b, 0x29, 2, 2, false⟩, ⟨.andZp b, .zp b, 0x25, 2, 3, false⟩,
   ⟨.andZpX b, .zpx b, 0x35, 2, 4, false⟩, ⟨.andAbs w, .abs w, 0x2D, 3, 4, false⟩,
   ⟨.andAbsX w, .absx w, 0x3D, 3, 4, true⟩, ⟨.andAbsY w, .absy w, 0x39, 3, 4, true⟩,
   ⟨.andIndX b, .indx b, 0x21, 2, 6, false⟩, ⟨.andIndY b, .indy b, 0x31, 2, 5, true⟩]

/-- The forms of ORA, from the table of R181. -/
def oraForms (b : Byte) (w : Word) : List Form :=
  [⟨.oraImm b, .imm b, 0x09, 2, 2, false⟩, ⟨.oraZp b, .zp b, 0x05, 2, 3, false⟩,
   ⟨.oraZpX b, .zpx b, 0x15, 2, 4, false⟩, ⟨.oraAbs w, .abs w, 0x0D, 3, 4, false⟩,
   ⟨.oraAbsX w, .absx w, 0x1D, 3, 4, true⟩, ⟨.oraAbsY w, .absy w, 0x19, 3, 4, true⟩,
   ⟨.oraIndX b, .indx b, 0x01, 2, 6, false⟩, ⟨.oraIndY b, .indy b, 0x11, 2, 5, true⟩]

/-- The forms of EOR, from the table of R182. -/
def eorForms (b : Byte) (w : Word) : List Form :=
  [⟨.eorImm b, .imm b, 0x49, 2, 2, false⟩, ⟨.eorZp b, .zp b, 0x45, 2, 3, false⟩,
   ⟨.eorZpX b, .zpx b, 0x55, 2, 4, false⟩, ⟨.eorAbs w, .abs w, 0x4D, 3, 4, false⟩,
   ⟨.eorAbsX w, .absx w, 0x5D, 3, 4, true⟩, ⟨.eorAbsY w, .absy w, 0x59, 3, 4, true⟩,
   ⟨.eorIndX b, .indx b, 0x41, 2, 6, false⟩, ⟨.eorIndY b, .indy b, 0x51, 2, 5, true⟩]

/-- The forms of BIT, from the table of R183. -/
def bitForms (b : Byte) (w : Word) : List Form :=
  [⟨.bitZp b, .zp b, 0x24, 2, 3, false⟩, ⟨.bitAbs w, .abs w, 0x2C, 3, 4, false⟩]

/-- The forms of ASL, from the table of R184. -/
def aslForms (b : Byte) (w : Word) : List Form :=
  [⟨.aslAcc, .acc, 0x0A, 1, 2, false⟩, ⟨.aslZp b, .zp b, 0x06, 2, 5, false⟩,
   ⟨.aslZpX b, .zpx b, 0x16, 2, 6, false⟩, ⟨.aslAbs w, .abs w, 0x0E, 3, 6, false⟩,
   ⟨.aslAbsX w, .absx w, 0x1E, 3, 7, false⟩]

/-- The forms of LSR, from the table of R185. -/
def lsrForms (b : Byte) (w : Word) : List Form :=
  [⟨.lsrAcc, .acc, 0x4A, 1, 2, false⟩, ⟨.lsrZp b, .zp b, 0x46, 2, 5, false⟩,
   ⟨.lsrZpX b, .zpx b, 0x56, 2, 6, false⟩, ⟨.lsrAbs w, .abs w, 0x4E, 3, 6, false⟩,
   ⟨.lsrAbsX w, .absx w, 0x5E, 3, 7, false⟩]

/-- The forms of ROL, from the table of R186. -/
def rolForms (b : Byte) (w : Word) : List Form :=
  [⟨.rolAcc, .acc, 0x2A, 1, 2, false⟩, ⟨.rolZp b, .zp b, 0x26, 2, 5, false⟩,
   ⟨.rolZpX b, .zpx b, 0x36, 2, 6, false⟩, ⟨.rolAbs w, .abs w, 0x2E, 3, 6, false⟩,
   ⟨.rolAbsX w, .absx w, 0x3E, 3, 7, false⟩]

/-- The forms of ROR, from the table of R187. -/
def rorForms (b : Byte) (w : Word) : List Form :=
  [⟨.rorAcc, .acc, 0x6A, 1, 2, false⟩, ⟨.rorZp b, .zp b, 0x66, 2, 5, false⟩,
   ⟨.rorZpX b, .zpx b, 0x76, 2, 6, false⟩, ⟨.rorAbs w, .abs w, 0x6E, 3, 6, false⟩,
   ⟨.rorAbsX w, .absx w, 0x7E, 3, 7, false⟩]

/-- The forms that read an operand: those that only read it, and the read-modify-writes
(60_exceptions.md R220). -/
def readingForms (b : Byte) (w : Word) : List Form :=
  adcForms b w ++ sbcForms b w ++ cmpForms b w ++ cpxForms b w ++ cpyForms b w ++
  ldaForms b w ++ ldxForms b w ++ ldyForms b w ++
  andForms b w ++ oraForms b w ++ eorForms b w ++ bitForms b w ++
  incForms b w ++ decForms b w ++ aslForms b w ++ lsrForms b w ++ rolForms b w ++ rorForms b w

/-- A flag written as a number. -/
def bit (f : Bool) : Nat := f.toNat

/-- The state with `pc` past `bytes` bytes and `cycles` cycles charged to a running budget: all that an
instruction changes beside its own effect (40_execute_loop.md R80, 41_addressing_modes.md R112). -/
def past (bytes cycles : Nat) (s : State) : State :=
  { s with pc := s.pc + BitVec.ofNat 16 bytes, budget := s.budget.map (fun n => n - (cycles : Int)) }

/-- `past` for a form, with the one cycle more of a page cross where its opcode has the penalty
(40_execute_loop.md R80, R81). -/
def Form.past (f : Form) (s : State) : State :=
  Claims.past f.bytes (f.cycles + bit (f.pen && s.crosses f.operand)) s

/-- A reading form: it completes with `effect` of its operand byte, and an operand that cannot be read
is fatal with nothing else done. -/
def Form.Reads (f : Form) (effect : State → Byte → State → State) : Prop :=
  f.instr.opcode = f.opcode ∧
    ∀ s, (∀ m, s.operand f.operand = .ok m → exec f.instr s = .next (effect s m (f.past s))) ∧
      (∀ e, s.operand f.operand = .error e → exec f.instr s = .fault e)

/-- Z and N of a result byte (42_alu_and_flags.md R115, R116). -/
def zn (r : Byte) (f : Flags) : Flags := { f with z := decide (r = 0), n := decide (128 ≤ r.toNat) }

/-- A storing form: the byte `v s` goes to the address its mode resolves to and to no other, and where
the address sum left memory nothing is stored (41_addressing_modes.md R97); no register and no flag
changes. -/
def Form.Stores (f : Form) (v : State → Byte) : Prop :=
  f.instr.opcode = f.opcode ∧
    ∀ s, s.mem.wf = true → ∃ t, exec f.instr s = .next t ∧ t = { f.past s with mem := t.mem } ∧
      (∀ a, (s.resolve f.operand).place = .mem (.addr a) →
        t.read a = v s ∧ ∀ c, c ≠ a → t.read c = s.read c) ∧
      (∀ n, (s.resolve f.operand).place = .mem (.oor n) → ∀ c, t.read c = s.read c)

/-- A read-modify-write form: the byte at the address its mode resolves to is replaced by the result and
no other byte changes; an accumulator form replaces A and no byte of memory changes; `r` gives the
result byte and the flags; an operand that cannot be read is fatal with nothing else done. -/
def Form.Modifies (f : Form) (r : State → Byte → Byte → Flags → Prop) : Prop :=
  f.instr.opcode = f.opcode ∧
    ∀ s, s.mem.wf = true →
      (∀ v, s.operand f.operand = .ok v →
        ∃ t res, exec f.instr s = .next t ∧ r s v res t.flags ∧
          (∀ a, (s.resolve f.operand).place = .mem (.addr a) →
            t = { f.past s with mem := t.mem, flags := t.flags } ∧
            t.read a = res ∧ ∀ c, c ≠ a → t.read c = s.read c) ∧
          ((s.resolve f.operand).place = .acc → t = { f.past s with a := res, flags := t.flags })) ∧
      (∀ e, s.operand f.operand = .error e → exec f.instr s = .fault e)

/-- A signed value outside the range of a byte (42_alu_and_flags.md R120). -/
def OutOfByteRange (n : Int) : Prop := n < -128 ∨ 127 < n

/-- `x & 0x0F` as a number (42_alu_and_flags.md R130, R131). -/
def lowDigit (x : Byte) : Nat := x.toNat % 16

/-- `x & 0xF0` as a number (42_alu_and_flags.md R130, R131). -/
def highDigit (x : Byte) : Nat := x.toNat / 16 * 16

/-- `s8` of a number below 256 (00_scope.md R9). -/
def signedByte (n : Nat) : Int := if n < 128 then n else (n : Int) - 256

/-- Two decimal digits as a byte (42_alu_and_flags.md R130, "BCD-valid inputs"). -/
def bcd (n : Nat) : Byte := BitVec.ofNat 8 (16 * (n / 10) + n % 10)

/-- The address `0x0100 | SP` as a number (20_memory.md R51). -/
def stackSlot (sp : Byte) : Word := BitVec.ofNat 16 (0x100 + sp.toNat)

/-- A 16-bit value from the byte read first and the one read second, in `word_order` (20_memory.md R46). -/
def wordOf (order : WordOrder) (b0 b1 : Byte) : Word :=
  match order with
  | .little => BitVec.ofNat 16 (b1.toNat * 256 + b0.toNat)
  | .big    => BitVec.ofNat 16 (b0.toNat * 256 + b1.toNat)

/-- An instruction with no operand: its table row and its whole effect. -/
def Implied (i : Instr) (opcode : Byte) (cycles : Nat) (effect : State → State → State) : Prop :=
  i.opcode = opcode ∧ ∀ s, exec i s = .next (effect s (past 1 cycles s))

/-- A branch: its table row, the flag test it makes, and what it does when taken and when not
(44_control_transfer.md R154). -/
def Branches (i : Byte → Instr) (opcode : Byte) (test : Flags → Prop) : Prop :=
  ∀ off, (i off).opcode = opcode ∧ ∀ s,
    (¬test s.flags → exec (i off) s = .next (past 2 2 s)) ∧
    (test s.flags →
      let next := s.pc + 2
      let target := BitVec.ofInt 16 (next.toNat + off.toInt)
      exec (i off) s = .next
        { past 2 (3 + bit (decide (next.toNat / 256 ≠ target.toNat / 256))) s with pc := target })

/-- The mnemonics that may write memory (20_memory.md R43). -/
def memoryWriters : List Mnemonic :=
  [.sta, .stx, .sty, .asl, .lsr, .rol, .ror, .inc, .dec, .pha, .php, .jsr, .brk]

/-- The opcodes with a page-cross penalty (40_execute_loop.md R81). -/
def penaltyOpcodes : List Byte :=
  [0x7D, 0x79, 0x71, 0x3D, 0x39, 0x31, 0xDD, 0xD9, 0xD1, 0x5D, 0x59, 0x51, 0xBD, 0xB9, 0xB1,
   0x1D, 0x19, 0x11, 0xFD, 0xF9, 0xF1, 0xBE, 0xBC]

/-- The 105 opcodes no instruction has (30_encoding.md R66). -/
def unrecognizedOpcodes : List Byte :=
  [0x02, 0x03, 0x04, 0x07, 0x0B, 0x0C, 0x0F, 0x12, 0x13, 0x14, 0x17, 0x1A, 0x1B, 0x1C, 0x1F,
   0x22, 0x23, 0x27, 0x2B, 0x2F, 0x32, 0x33, 0x34, 0x37, 0x3A, 0x3B, 0x3C, 0x3F, 0x42, 0x43,
   0x44, 0x47, 0x4B, 0x4F, 0x52, 0x53, 0x54, 0x57, 0x5A, 0x5B, 0x5C, 0x5F, 0x62, 0x63, 0x64,
   0x67, 0x6B, 0x6F, 0x72, 0x73, 0x74, 0x77, 0x7A, 0x7B, 0x7C, 0x7F, 0x80, 0x82, 0x83, 0x87] ++
  [0x89, 0x8B, 0x8F, 0x92, 0x93, 0x97, 0x9B, 0x9C, 0x9E, 0x9F, 0xA3, 0xA7, 0xAB, 0xAF, 0xB2,
   0xB3, 0xB7, 0xBB, 0xBF, 0xC2, 0xC3, 0xC7, 0xCB, 0xCF, 0xD2, 0xD3, 0xD4, 0xD7, 0xDA, 0xDB,
   0xDC, 0xDF, 0xE2, 0xE3, 0xE7, 0xEB, 0xEF, 0xF2, 0xF3, 0xF4, 0xF7, 0xFA, 0xFB, 0xFC, 0xFF]

/-- The 19 opcodes of the minimum set (30_encoding.md R67). -/
def minimumOpcodes : List Byte :=
  [0x69, 0x65, 0x75, 0x6D, 0x7D, 0x79, 0x61, 0x71, 0x4C, 0x6C, 0x20,
   0xA9, 0xA5, 0xB5, 0xAD, 0xBD, 0xB9, 0xA1, 0xB1]

/-- A state changed to hold the given value of I. -/
def withI (v : Bool) (s : State) : State := { s with flags := { s.flags with i := v } }

/-- A state changed to hold the given value of the stored B. -/
def withB (v : Bool) (s : State) : State := { s with flags := { s.flags with b := v } }

/-- The outcome with its next state, if it has one, changed. -/
def onNext (g : State → State) : Outcome → Outcome
  | .next t    => .next (g t)
  | .fault f   => .fault f
  | .refused r => .refused r

end Sys2Proof.Claims

open Sys2Proof Sys2Proof.Machine Sys2Proof.Claims

/-! ## Encoding -/

/-- Decoding the encoding of any instruction the opcode set has gives it back, whatever follows, in
either byte order (30_encoding.md R60 to R66). -/
def Obligations.DecodeOfEncodeIsTheInstruction : Prop :=
  ∀ (set : OpcodeSet) (order : WordOrder) (i : Instr) (rest : List Byte),
    i.wellFormed set = true → decode set order (encode order i ++ rest) = .ok (i, rest)

/-- What the decoder accepts is the encoding of the instruction it answers, followed by the rest, and
the opcode set has that instruction. -/
def Obligations.DecodedBytesAreTheEncoding : Prop :=
  ∀ (set : OpcodeSet) (order : WordOrder) (bytes rest : List Byte) (i : Instr),
    decode set order bytes = .ok (i, rest) →
      bytes = encode order i ++ rest ∧ i.wellFormed set = true

/-- A few words written out from the spec's encodings: the two values the source states (R68), the example of R62 in
both orders, and one of each format. -/
def Obligations.SampleWordsDecode : Prop :=
  decode .documented151 .little [0x4C, 0xFC, 0xEF] = .ok (.jmpAbs 0xEFFC, []) ∧
  decode .documented151 .big [0x4C, 0xEF, 0xFC] = .ok (.jmpAbs 0xEFFC, []) ∧
  decode .documented151 .little [0xA9, 0x84] = .ok (.ldaImm 0x84, []) ∧
  decode .documented151 .little [0xB5, 0x40] = .ok (.ldaZpX 0x40, []) ∧
  decode .documented151 .little [0xEA] = .ok (.nop, []) ∧
  decode .documented151 .little [0x02] = .error (.unrecognized 0x02) ∧
  decode .minimum19 .little [0xE8] = .error (.unrecognized 0xE8)

/-- The opcode sets: the unrecognized bytes are the 105 listed under `documented151` (R66) and all but the
19 listed under `minimum19` (R67). -/
def Obligations.OpcodeSetsAreTheListed : Prop :=
  ∀ op : Byte,
    (decodeEntry .documented151 op = none ↔ op ∈ unrecognizedOpcodes) ∧
    (decodeEntry .minimum19 op = none ↔ op ∉ minimumOpcodes)

/-- The page-cross penalty is on exactly the 23 opcodes of R81; every other instruction takes its base
cost, crossed or not. -/
def Obligations.PagePenaltyOpcodes : Prop :=
  ∀ (i : Instr) (crossed : Bool),
    i.cost crossed = i.entry.base + bit (decide (i.opcode ∈ penaltyOpcodes) && crossed)

/-! ## The step -/

/-- A step runs the decoded instruction: where no latch is set, a reset has been made, the bytes at `pc`
decode to `i` and the budget does not fall short, the step is `exec i`, and nothing is added around it.
That nothing falls short with no budget is the model's (log 5). -/
def Obligations.StepRunsDecodedInstruction : Prop :=
  ∀ (s : State) (i : Instr) (rest : List Byte),
    s.fatal = none → s.refused = none → s.resetDone = true →
    decode s.params.opcodeSet s.wordOrder [s.read s.pc, s.read (s.pc + 1), s.read (s.pc + 2)]
      = .ok (i, rest) →
    (s.params.shortfall = .complete ∨ s.budget = none ∨
      ∃ n, s.budget = some n ∧ (i.entry.base : Int) ≤ n) →
    step s = exec i s

/-- An instruction whose encoding stands at `pc` is the one the step runs. -/
def Obligations.StepRunsTheEncodedInstruction : Prop :=
  ∀ (s : State) (i : Instr),
    s.fatal = none → s.refused = none → s.resetDone = true → s.params.shortfall = .complete →
    i.wellFormed s.params.opcodeSet = true →
    (∀ k v, (encode s.wordOrder i)[k]? = some v → s.read (s.pc + BitVec.ofNat 16 k) = v) →
    step s = exec i s

/-- An unrecognized opcode (R83): the first nine cost a cycle, advance `pc` by one, emit the event and
are counted, and change nothing else; so does the 10th, and it is fatal. The list of events is the model's
own field (log 6), and the state the fatal leaves is the model's reading of R227 (log 7), which the spec
marks as derived. -/
def Obligations.UnrecognizedOpcodeIsCounted : Prop :=
  ∀ s : State,
    s.fatal = none → s.refused = none → s.resetDone = true →
    decodeEntry s.params.opcodeSet (s.read s.pc) = none →
    (s.illegalCount + 1 ≠ 10 → step s = .next { past 1 1 s with
        illegalCount := s.illegalCount + 1,
        events := s.events ++ [.unrecognized (s.read s.pc) s.pc] }) ∧
    (s.illegalCount + 1 = 10 → step s = .fault (.illegalLimit (s.read s.pc) s.pc) ∧
      s.afterFatal (.illegalLimit (s.read s.pc) s.pc) = { past 1 1 s with
        illegalCount := 10, events := s.events ++ [.unrecognized (s.read s.pc) s.pc],
        fatal := some (.illegalLimit (s.read s.pc) s.pc) })

/-- Under `P_SHORTFALL = fault` a recognized opcode whose base cost exceeds the budget left is fatal
(R82), and only `pc` has moved, past the opcode. -/
def Obligations.BudgetShortfallIsFatal : Prop :=
  ∀ (s : State) (e : Entry) (n : Int),
    s.fatal = none → s.refused = none → s.resetDone = true → s.params.shortfall = .fault →
    decodeEntry s.params.opcodeSet (s.read s.pc) = some e → s.budget = some n →
    n < (e.base : Int) →
    step s = .fault (.budgetShortfall (s.read s.pc) s.pc) ∧
      s.afterFatal (.budgetShortfall (s.read s.pc) s.pc) =
        { s with pc := s.pc + 1, fatal := some (.budgetShortfall (s.read s.pc) s.pc) }

/-- After a fatal nothing runs: no step, no reset, no execute call, and no host access of any kind, to memory, to
a register or flag, or to the byte order (R230, R31). That a step of a latched state answers the latched
reason is the model's (log 7), and that a host access then answers `none` (log 17). -/
def Obligations.NothingFollowsAFatal : Prop :=
  ∀ (s : State) (f : Fault), s.fatal = some f →
    step s = .fault f ∧ s.resetOp = s ∧ (∀ n, s.execute n = (.fatal f, s)) ∧
      s.hostReset = none ∧ (∀ n, s.hostExecute n = none) ∧
      (∀ n v, s.hostWrite n v = none) ∧ (∀ n, s.hostRead n = none) ∧
      (∀ q, s.hostReadReg q = none) ∧ (∀ q k, s.hostWriteReg q k = none) ∧
      ∀ native m, s.hostConfigure native m = none

/-- An execute call before the first reset is refused, changes nothing but the refusal mark, and the mark is
kept (R79, R221). That a later call answers the same refusal is the model's (log 8). -/
def Obligations.ExecuteBeforeResetIsRefused : Prop :=
  ∀ (s : State) (n : Nat), s.fatal = none → s.refused = none → s.resetDone = false →
    s.execute n = (.refused .notReset, { s with refused := some .notReset }) ∧
    ∀ k, (s.execute n).2.resetOp.execute k = (.refused .notReset, (s.execute n).2.resetOp)

/-- `execute(0)` runs no step and returns 0 (R78). It is an execute call, so the host may no longer set the byte
order of the session (log 23). -/
def Obligations.ExecuteZeroRunsNothing : Prop :=
  ∀ s : State, s.fatal = none → s.refused = none → s.resetDone = true →
    s.execute 0 = (.returned 0, { s with budget := none, orderSetup := .locked })

/-- An execute call runs step after step (R78, R85). For every budget above 0 it makes one step; where that
leaves no budget it returns what is left, in the state after the step; where some is left it goes on as
a call with that budget would; and it ends with the step's fatal or refusal, in the state that stop
leaves. A step leaves less than it was given, so `execute(1)` runs exactly one (R232, which the spec marks
as derived from R78). The states a stop leaves are the model's reading (log 7), the bound on the loop's
steps is the model's (log 14), and the step starts with the byte order no longer to be set (log 23). -/
def Obligations.ExecuteRunsStepAfterStep : Prop :=
  ∀ (s : State) (n : Nat), s.fatal = none → s.refused = none → s.resetDone = true → 0 < n →
    let started : State := { s with budget := some (n : Int), orderSetup := .locked }
    match step started with
    | .next t    => ∃ m, t.budget = some m ∧ m < (n : Int) ∧
        (m ≤ 0 → s.execute n = (.returned m, { t with budget := none })) ∧
        (0 < m → s.execute n = State.execute { t with budget := none } m.toNat)
    | .fault f   => s.execute n = (.fatal f, { started.afterFatal f with budget := none }) ∧
        (s.execute n).2.fatal = some f
    | .refused r => s.execute n = (.refused r, { started.afterRefusal r with budget := none }) ∧
        (s.execute n).2.refused = some r

/-- Every step that answers a next state charges at least one cycle and at most seven, and starts or
ends no execute call (R80, R65, R83). That a step with no execute call running charges nothing is the
model's (log 5). -/
def Obligations.StepChargesOneToSevenCycles : Prop :=
  ∀ s t : State, step s = .next t →
    (s.budget = none → t.budget = none) ∧
    ∀ n, s.budget = some n → ∃ m, t.budget = some m ∧ 1 ≤ n - m ∧ n - m ≤ 7

/-- An execute call that returns has spent its budget, and overshoots it by at most six cycles (R78,
R85); the budget is gone after the call (R32). The bound on the loop's steps is the model's (log 14). -/
def Obligations.ExecuteReturnsWithTheBudgetSpent : Prop :=
  ∀ (s t : State) (n : Nat) (left : Int), s.execute n = (.returned left, t) →
    left ≤ 0 ∧ -6 ≤ left ∧ t.budget = none

/-- The invariant of a session is kept by every step: canonical memory, a reset made, no latch set, the
counter below ten, one event a count. The list of events is the model's own field (log 6). -/
def Obligations.StepKeepsTheInvariant : Prop :=
  ∀ s t : State, s.Inv → step s = .next t → t.Inv

/-- The state after reset meets the invariant. That its list of events is empty is the model's (log 6). -/
def Obligations.ResetMeetsTheInvariant : Prop := State.reset.Inv

/-! ## Rules over all instructions -/

/-- Every instruction completes where address sums wrap, but ADC and SBC with D = 1 under `P_DECIMAL =
refuse`; its cost is charged, and an instruction that transfers no control leaves `pc` at the next
instruction (R97, R112). The spec marks "no core access faults" under `wrap`, and R112, as derived. -/
def Obligations.EveryInstructionCompletes : Prop :=
  ∀ (i : Instr) (s : State), s.params.addrOverflow = .wrap →
    ¬(s.flags.d = true ∧ s.params.decimal = .refuse ∧ i.mnemonic ∈ [Mnemonic.adc, .sbc]) →
    ∃ t extra, exec i s = .next t ∧ extra ≤ 2 ∧
      t.budget = s.budget.map (fun n => n - ((i.entry.base + extra : Nat) : Int)) ∧
      (i.mnemonic ∉ [Mnemonic.jmp, .jsr, .rts, .rti, .brk, .bcc, .bcs, .beq, .bmi, .bne, .bpl, .bvc, .bvs] →
        t.pc = s.pc + BitVec.ofNat 16 i.length)

/-- ADC and SBC with D = 1 under `P_DECIMAL = refuse` are refused with the opcode and its address (R86),
and no other instruction is ever refused. The refusal comes after the opcode fetch and before any
operand fetch, so only `pc` has moved, past the opcode, and the mark is set (R86, R221; that the mark
holds its reason is the model's, log 8). -/
def Obligations.DecimalIsTheOnlyRefusal : Prop :=
  ∀ (i : Instr) (s : State),
    (s.flags.d = true ∧ s.params.decimal = .refuse ∧ i.mnemonic ∈ [Mnemonic.adc, .sbc] →
      exec i s = .refused (.decimal i.opcode s.pc) ∧
      s.afterRefusal (.decimal i.opcode s.pc) =
        { s with pc := s.pc + 1, refused := some (.decimal i.opcode s.pc) }) ∧
    ∀ r, exec i s = .refused r →
      s.flags.d = true ∧ s.params.decimal = .refuse ∧ i.mnemonic ∈ [Mnemonic.adc, .sbc]

/-- Under `P_ADDR_OVERFLOW = fault` the fatals of the core are reads of a sum past 0xFFFF: the operand
read of an indexed form, or the second byte of an indirect jump's pointer at 0xFFFF, and the fatal
records the sum (R97, R220). Such a fatal leaves the state before the step with `pc` past the
instruction's bytes and the latch set, and nothing charged or written: the model's reading of R227 (logs
7, 22), which the spec marks as derived. The other way round, every form that reads its operand at such
a sum, a read-modify-write among them, is fatal with that sum, unless D = 1 is refused before it (R225);
and so is the indirect jump. -/
def Obligations.CoreFaultsAreOutOfRangeReads : Prop :=
  (∀ (i : Instr) (s : State) (f : Fault), exec i s = .fault f →
    s.params.addrOverflow = .fault ∧
      ∃ n, f = .readRange n ∧ 0x10000 ≤ n ∧
        ((i.entry.mode ∈ [Mode.absx, .absy, .indy] ∧
            ∃ b w, ∃ g ∈ readingForms b w, g.instr = i ∧
              (s.resolve g.operand).place = .mem (.oor n)) ∨
          (i = .jmpInd 0xFFFF ∧ n = 0x10000)) ∧
        ∀ rest, decode s.params.opcodeSet s.wordOrder
            [s.read s.pc, s.read (s.pc + 1), s.read (s.pc + 2)] = .ok (i, rest) →
          s.afterFatal f = { s with pc := s.pc + BitVec.ofNat 16 i.length, fatal := some f }) ∧
  (∀ (b : Byte) (w : Word), ∀ g ∈ readingForms b w, ∀ (s : State) (n : Nat),
    ¬(s.flags.d = true ∧ s.params.decimal = .refuse ∧ g.instr.mnemonic ∈ [Mnemonic.adc, .sbc]) →
    (s.resolve g.operand).place = .mem (.oor n) → exec g.instr s = .fault (.readRange n)) ∧
  ∀ s : State, s.params.addrOverflow = .fault → exec (.jmpInd 0xFFFF) s = .fault (.readRange 0x10000)

/-- No step writes the stored B flag, the byte order, a launch parameter or the session flag, or sets a
latch (R132, R33, D11), and only an unrecognized opcode counts or emits (R30, R83). The parameters in
State, the list of events and the record of whether the host may set the byte order are the model's own
fields (logs 1, 6, 23). -/
def Obligations.StepNeverWritesBOrConfiguration : Prop :=
  ∀ s t : State, step s = .next t →
    t.flags.b = s.flags.b ∧ t.wordOrder = s.wordOrder ∧ t.orderSetup = s.orderSetup ∧
      t.params = s.params ∧ t.resetDone = s.resetDone ∧ t.fatal = none ∧ t.refused = none ∧
      (t.illegalCount ≠ s.illegalCount ∨ t.events ≠ s.events →
        decodeEntry s.params.opcodeSet (s.read s.pc) = none)

/-- The I flag masks nothing: only PHP and BRK read it (R224). An instruction run with another value of
I does the same, and leaves that value where it writes none. -/
def Obligations.InterruptDisableMasksNothing : Prop :=
  ∀ (i : Instr) (s : State) (v : Bool), i.mnemonic ∉ [Mnemonic.php, .brk] →
    exec i (withI v s) =
      onNext (fun t => if i.mnemonic ∈ [Mnemonic.sei, .cli, .plp, .rti] then t else withI v t) (exec i s)

/-- No instruction reads the stored B (R26): run with another value of B, every instruction does the
same and leaves B at that value. -/
def Obligations.StoredBreakIsNeverRead : Prop :=
  ∀ (i : Instr) (s : State) (v : Bool), exec i (withB v s) = onNext (withB v) (exec i s)

/-- The frame of memory (R43): an instruction that is not a store, a read-modify-write or a push leaves
every byte as it was, and so does the accumulator form of a shift. -/
def Obligations.OnlyListedInstructionsWriteMemory : Prop :=
  ∀ (i : Instr) (s t : State), exec i s = .next t →
    i.mnemonic ∉ memoryWriters ∨ i.entry.mode = .acc → ∀ a, t.read a = s.read a

/-- The frame of the registers: what each instruction may write of A, X, Y and SP (R20 to R23). -/
def Obligations.RegistersChangeOnlyByTheirWriters : Prop :=
  ∀ (i : Instr) (s t : State), exec i s = .next t →
    (t.a ≠ s.a → i.mnemonic ∈ [Mnemonic.lda, .adc, .sbc, .and, .ora, .eor, .pla, .txa, .tya] ∨
      i.entry.mode = .acc) ∧
    (t.x ≠ s.x → i.mnemonic ∈ [Mnemonic.ldx, .tax, .tsx, .inx, .dex]) ∧
    (t.y ≠ s.y → i.mnemonic ∈ [Mnemonic.ldy, .tay, .iny, .dey]) ∧
    (t.sp ≠ s.sp → i.mnemonic ∈ [Mnemonic.txs, .pha, .php, .pla, .plp, .jsr, .rts, .brk, .rti])

/-- The frame of the flags: each flag is written by the instructions R26 lists for it and by no other. -/
def Obligations.FlagsChangeOnlyByTheirWriters : Prop :=
  ∀ (i : Instr) (s t : State), exec i s = .next t →
    (t.flags.c ≠ s.flags.c → i.mnemonic ∈
      [Mnemonic.adc, .sbc, .cmp, .cpx, .cpy, .asl, .lsr, .rol, .ror, .clc, .sec, .plp, .rti]) ∧
    (t.flags.z ≠ s.flags.z ∨ t.flags.n ≠ s.flags.n → i.mnemonic ∈
      [Mnemonic.lda, .ldx, .ldy, .tax, .tay, .txa, .tya, .tsx, .inc, .dec, .inx, .iny, .dex, .dey,
       .adc, .sbc, .and, .ora, .eor, .bit, .cmp, .cpx, .cpy, .asl, .lsr, .rol, .ror, .pla, .plp, .rti]) ∧
    (t.flags.i ≠ s.flags.i → i.mnemonic ∈ [Mnemonic.sei, .cli, .brk, .plp, .rti]) ∧
    (t.flags.d ≠ s.flags.d → i.mnemonic ∈ [Mnemonic.sed, .cld, .plp, .rti]) ∧
    (t.flags.v ≠ s.flags.v → i.mnemonic ∈ [Mnemonic.adc, .sbc, .bit, .clv, .plp, .rti]) ∧
    t.flags.b = s.flags.b

/-! ## Memory, words and the stack -/

/-- A byte of memory holds the last value written to it, and a write changes no other byte (R41, R54,
R57); the next fetch sees it (R59). -/
def Obligations.ReadAfterWrite : Prop :=
  ∀ (s : State) (a c : Word) (v : Byte), s.mem.wf = true →
    (s.write a v).read a = v ∧ (c ≠ a → (s.write a v).read c = s.read c) ∧
      ({ s.write a v with pc := a }).fetchByte = (v, { s.write a v with pc := a + 1 })

/-- The byte-order round trip (R46, R49): a word written by either policy is read back by a word fetch
and by a word read under the same policy, the second byte at the address after 0xFFFF being 0x0000. -/
def Obligations.WordRoundTrip : Prop :=
  ∀ (s : State) (a w : Word), s.mem.wf = true → s.params.addrOverflow = .wrap →
    let lo : Byte := BitVec.ofNat 8 (w.toNat % 256)
    let hi : Byte := BitVec.ofNat 8 (w.toNat / 256)
    let bytes := match s.wordOrder with
      | .little => [lo, hi]
      | .big    => [hi, lo]
    let s' := s.writeBytes a bytes
    s'.readWord a = .ok w ∧ ({ s' with pc := a }).fetchWord = (w, { s' with pc := a + 2 })

/-- Push stores at `0x0100 | SP` and then decrements SP modulo 256; pull increments SP and then reads; a
pull after a push gives the byte back; no byte but the one in page 1 changes (R52, R53). -/
def Obligations.PushThenPull : Prop :=
  ∀ (s : State) (v : Byte), s.mem.wf = true →
    (s.push v).sp.toNat = (s.sp.toNat + 255) % 256 ∧
    (s.push v).read (stackSlot s.sp) = v ∧
    (∀ a, a ≠ stackSlot s.sp → (s.push v).read a = s.read a) ∧
    (s.push v).pull.1 = v ∧ (s.push v).pull.2.sp = s.sp ∧
    s.pull.1 = s.read (stackSlot (BitVec.ofNat 8 ((s.sp.toNat + 1) % 256))) ∧
    s.pull.2 = { s with sp := BitVec.ofNat 8 ((s.sp.toNat + 1) % 256) }

/-- The packed status byte (R28): N V 1 1 D I Z C from bit 7 to bit 0, and unpacking writes six flags
from their bits and leaves B. -/
def Obligations.PackedStatusBits : Prop :=
  ∀ (f : Flags) (b : Byte),
    f.packForPush.toNat = 128 * bit f.n + 64 * bit f.v + 32 + 16 + 8 * bit f.d + 4 * bit f.i
      + 2 * bit f.z + bit f.c ∧
    (∀ g : Flags, (g.unpack f.packForPush) = { f with b := g.b }) ∧
    (f.unpack b).n = b.getLsbD 7 ∧ (f.unpack b).v = b.getLsbD 6 ∧ (f.unpack b).d = b.getLsbD 3 ∧
    (f.unpack b).i = b.getLsbD 2 ∧ (f.unpack b).z = b.getLsbD 1 ∧ (f.unpack b).c = b.getLsbD 0 ∧
    (f.unpack b).b = f.b

/-! ## Addressing modes -/

/-- Zero page and zero page indexed (R101, R102, R96): the address is the byte, or the byte plus X or Y,
wrapping within page 0 under `page` and carried into page 1 under `linear`; never a page cross. -/
def Obligations.ZeroPageAddresses : Prop :=
  ∀ (s : State) (b : Byte),
    let index : Byte → Word := fun k => match s.params.zpWrap with
      | .page   => BitVec.ofNat 16 ((b.toNat + k.toNat) % 256)
      | .linear => BitVec.ofNat 16 (b.toNat + k.toNat)
    s.resolve (.zp b) = ⟨.mem (.addr (BitVec.ofNat 16 b.toNat)), false⟩ ∧
    s.resolve (.zpx b) = ⟨.mem (.addr (index s.x)), false⟩ ∧
    s.resolve (.zpy b) = ⟨.mem (.addr (index s.y)), false⟩

/-- Absolute and absolute indexed (R103, R104, R97, R111): the sum with X or Y; past 0xFFFF it wraps and
counts as a page cross under `wrap`, and is out of range under `fault`. Immediate and accumulator (R99,
R100) have no address. For every operand form, the operand (R110) is the value the instruction carries,
A, or the byte at the address, a read out of range is fatal and records the sum (R97), and the page-cross
bit is the resolver's (R111). -/
def Obligations.AddressesAndOperands : Prop :=
  ∀ s : State,
    (∀ w : Word,
      let Sum (k : Byte) (r : Resolved) : Prop :=
        (w.toNat + k.toNat ≤ 0xFFFF →
          r = ⟨.mem (.addr (BitVec.ofNat 16 (w.toNat + k.toNat))),
            decide (w.toNat / 256 ≠ (w.toNat + k.toNat) / 256)⟩) ∧
        (0xFFFF < w.toNat + k.toNat → s.params.addrOverflow = .wrap →
          r = ⟨.mem (.addr (BitVec.ofNat 16 (w.toNat + k.toNat - 0x10000))), true⟩) ∧
        (0xFFFF < w.toNat + k.toNat → s.params.addrOverflow = .fault →
          r.place = .mem (.oor (w.toNat + k.toNat)))
      s.resolve (.abs w) = ⟨.mem (.addr w), false⟩ ∧
      Sum s.x (s.resolve (.absx w)) ∧ Sum s.y (s.resolve (.absy w))) ∧
    (∀ v, s.resolve (.imm v) = ⟨.value v, false⟩) ∧
    s.resolve .acc = ⟨.acc, false⟩ ∧
    ∀ o : Operand,
      (∀ v, (s.resolve o).place = .value v → s.operand o = .ok v) ∧
      ((s.resolve o).place = .acc → s.operand o = .ok s.a) ∧
      (∀ a, (s.resolve o).place = .mem (.addr a) → s.operand o = .ok (s.read a)) ∧
      (∀ n, (s.resolve o).place = .mem (.oor n) → s.operand o = .error (.readRange n)) ∧
      s.crosses o = (s.resolve o).crossed

/-- The zero-page pointers of (zp,X) and (zp),Y (R106, R107, R109): the pointer of (zp,X) is at the
indexed byte, that of (zp),Y at the byte itself, its second byte at the next address, wrapped
within page 0 under `page`; Y is added to the second as to an absolute address. -/
def Obligations.ZeroPagePointers : Prop :=
  ∀ (s : State) (b : Byte),
    let succ : Nat → Nat := fun p => match s.params.zpWrap with
      | .page   => (p + 1) % 256
      | .linear => p + 1
    let pointer : Nat → Word := fun p =>
      wordOf s.wordOrder (s.read (BitVec.ofNat 16 p)) (s.read (BitVec.ofNat 16 (succ p)))
    (s.params.zpWrap = .page →
      s.resolve (.indx b) = ⟨.mem (.addr (pointer ((b.toNat + s.x.toNat) % 256))), false⟩) ∧
    (s.params.zpWrap = .linear →
      s.resolve (.indx b) = ⟨.mem (.addr (pointer (b.toNat + s.x.toNat))), false⟩) ∧
    s.resolve (.indy b) = s.resolve (.absy (pointer b.toNat))

/-! ## Arithmetic -/

/-- ADC, binary (R118, R119), in all eight forms: the sum modulo 256, the carry, Z and N, V exactly when the
signed sum leaves the range of a byte (R120, which the spec marks as derived from R118), and nothing else.
An operand that cannot be read is fatal whatever D is, unless D = 1 is refused (R97, R86, R225). -/
def Obligations.AdcBinaryResult : Prop :=
  ∀ (b : Byte) (w : Word), ∀ f ∈ adcForms b w, f.instr.opcode = f.opcode ∧ ∀ s : State,
    (∀ m : Byte, s.flags.d = false ∨ s.params.decimal = .binary → s.operand f.operand = .ok m →
      ∃ t, exec f.instr s = .next t ∧
        t.a.toNat = (s.a.toNat + m.toNat + bit s.flags.c) % 256 ∧
        (t.flags.c = true ↔ 256 ≤ s.a.toNat + m.toNat + bit s.flags.c) ∧
        (t.flags.v = true ↔ OutOfByteRange (s.a.toInt + m.toInt + bit s.flags.c)) ∧
        t = { f.past s with
          a := t.a, flags := zn t.a { s.flags with c := t.flags.c, v := t.flags.v } }) ∧
    ∀ e, s.flags.d = false ∨ s.params.decimal ≠ .refuse → s.operand f.operand = .error e →
      exec f.instr s = .fault e

/-- SBC, binary (R121, R136), in all eight forms: the difference modulo 256, C = 1 for no borrow, the signed
overflow, Z and N, and nothing else. An operand that cannot be read is fatal whatever D is, unless D = 1 is
refused (R97, R86, R225). -/
def Obligations.SbcBinaryResult : Prop :=
  ∀ (b : Byte) (w : Word), ∀ f ∈ sbcForms b w, f.instr.opcode = f.opcode ∧ ∀ s : State,
    (∀ m : Byte, s.flags.d = false ∨ s.params.decimal = .binary → s.operand f.operand = .ok m →
      ∃ t, exec f.instr s = .next t ∧
        (t.a.toNat : Int) = ((s.a.toNat : Int) - m.toNat - (1 - bit s.flags.c)) % 256 ∧
        (t.flags.c = true ↔ 0 ≤ (s.a.toNat : Int) - m.toNat - (1 - bit s.flags.c)) ∧
        (t.flags.v = true ↔ s.a.getLsbD 7 ≠ m.getLsbD 7 ∧ t.a.getLsbD 7 ≠ s.a.getLsbD 7) ∧
        t = { f.past s with
          a := t.a, flags := zn t.a { s.flags with c := t.flags.c, v := t.flags.v } }) ∧
    ∀ e, s.flags.d = false ∨ s.params.decimal ≠ .refuse → s.operand f.operand = .error e →
      exec f.instr s = .fault e

/-- ADC with D = 1 under `nmos_bcd` (R130), in all eight forms and on any bytes, valid BCD or not. With R130's
`al`, `s` and `ss` as numbers: the result byte, C, Z of the binary sum, N of `s` before the high digit
is adjusted, V of the signed `ss`, and nothing else. On two decimal digits each, the result and the carry
are those of the decimal sum. -/
def Obligations.AdcDecimalResult : Prop :=
  ∀ (b : Byte) (w : Word), ∀ f ∈ adcForms b w, ∀ (s : State) (m : Byte),
    s.flags.d = true → s.params.decimal = .nmosBcd → s.operand f.operand = .ok m →
      let c := bit s.flags.c
      let low := lowDigit s.a + lowDigit m + c
      let al := if 10 ≤ low then (low + 6) % 16 + 16 else low
      let sum := highDigit s.a + highDigit m + al
      let ss := signedByte (highDigit s.a) + signedByte (highDigit m) + (al : Int)
      ∃ t, exec f.instr s = .next t ∧
        t.a.toNat = (if 160 ≤ sum then sum + 96 else sum) % 256 ∧
        (t.flags.c = true ↔ 160 ≤ sum) ∧
        (t.flags.z = true ↔ (s.a.toNat + m.toNat + c) % 256 = 0) ∧
        (t.flags.v = true ↔ OutOfByteRange ss) ∧
        (t.flags.n = true ↔ 128 ≤ sum % 256) ∧
        t = { f.past s with a := t.a, flags := { s.flags with
          c := t.flags.c, z := t.flags.z, v := t.flags.v, n := t.flags.n } } ∧
        ∀ p q, p < 100 → q < 100 → s.a = bcd p → m = bcd q →
          t.a = bcd ((p + q + c) % 100) ∧ (t.flags.c = true ↔ 100 ≤ p + q + c)

/-- SBC with D = 1 under `nmos_bcd` (R131), in all eight forms and on any bytes, valid BCD or not. With R131's
`al` and `s` as numbers: the result byte, with C, Z, V and N of the binary difference (R121), and nothing
else. On two decimal digits each, the result is the decimal difference modulo 100. -/
def Obligations.SbcDecimalResult : Prop :=
  ∀ (b : Byte) (w : Word), ∀ f ∈ sbcForms b w, ∀ (s : State) (m : Byte),
    s.flags.d = true → s.params.decimal = .nmosBcd → s.operand f.operand = .ok m →
      let c : Int := bit s.flags.c
      let low : Int := lowDigit s.a - lowDigit m + c - 1
      let al := if low < 0 then (low - 6) % 16 - 16 else low
      let sum : Int := highDigit s.a - highDigit m + al
      let diff : Int := s.a.toNat - m.toNat - (1 - c)
      ∃ t, exec f.instr s = .next t ∧
        (t.a.toNat : Int) = (if sum < 0 then sum - 96 else sum) % 256 ∧
        (t.flags.c = true ↔ 0 ≤ diff) ∧
        (t.flags.z = true ↔ diff % 256 = 0) ∧
        (t.flags.n = true ↔ 128 ≤ diff % 256) ∧
        (t.flags.v = true ↔ s.a.getLsbD 7 ≠ m.getLsbD 7 ∧ t.flags.n ≠ s.a.getLsbD 7) ∧
        t = { f.past s with a := t.a, flags := { s.flags with
          c := t.flags.c, z := t.flags.z, v := t.flags.v, n := t.flags.n } } ∧
        ∀ p q : Nat, p < 100 → q < 100 → s.a = bcd p → m = bcd q →
          t.a = bcd (((p : Int) - q - (1 - c)) % 100).toNat

/-- CMP, CPX and CPY (R122, R137 to R139), in all their forms: C, Z and N of the difference, and nothing
else. -/
def Obligations.CompareResult : Prop :=
  ∀ (b : Byte) (w : Word),
    let effect (reg : State → Byte) : State → Byte → State → State := fun s m t =>
      { t with flags := { s.flags with
          c := decide (m.toNat ≤ (reg s).toNat), z := decide (reg s = m),
          n := decide (128 ≤ ((reg s).toNat + 256 - m.toNat) % 256) } }
    (∀ f ∈ cmpForms b w, f.Reads (effect State.a)) ∧
    (∀ f ∈ cpxForms b w, f.Reads (effect State.x)) ∧
    (∀ f ∈ cpyForms b w, f.Reads (effect State.y))

/-- INC and DEC (R140, R141, R129): the byte at the address plus or minus one modulo 256, with Z and N,
and no other byte, register or flag. -/
def Obligations.IncrementMemoryResult : Prop :=
  ∀ (b : Byte) (w : Word),
    (∀ f ∈ incForms b w, f.Modifies fun s v r fl =>
      r.toNat = (v.toNat + 1) % 256 ∧ fl = zn r s.flags) ∧
    (∀ f ∈ decForms b w, f.Modifies fun s v r fl =>
      r.toNat = (v.toNat + 255) % 256 ∧ fl = zn r s.flags)

/-- INX, INY, DEX and DEY (R142 to R145). -/
def Obligations.IncrementRegisterResult : Prop :=
  let up (v : Byte) : Byte := BitVec.ofNat 8 ((v.toNat + 1) % 256)
  let down (v : Byte) : Byte := BitVec.ofNat 8 ((v.toNat + 255) % 256)
  Implied .inx 0xE8 2 (fun s t => { t with x := up s.x, flags := zn (up s.x) s.flags }) ∧
  Implied .iny 0xC8 2 (fun s t => { t with y := up s.y, flags := zn (up s.y) s.flags }) ∧
  Implied .dex 0xCA 2 (fun s t => { t with x := down s.x, flags := zn (down s.x) s.flags }) ∧
  Implied .dey 0x88 2 (fun s t => { t with y := down s.y, flags := zn (down s.y) s.flags })

/-! ## Load and store -/

/-- LDA, LDX and LDY (R170 to R172), in all their forms: the register, Z and N, and nothing else. -/
def Obligations.LoadResult : Prop :=
  ∀ (b : Byte) (w : Word),
    (∀ f ∈ ldaForms b w, f.Reads fun s m t => { t with a := m, flags := zn m s.flags }) ∧
    (∀ f ∈ ldxForms b w, f.Reads fun s m t => { t with x := m, flags := zn m s.flags }) ∧
    (∀ f ∈ ldyForms b w, f.Reads fun s m t => { t with y := m, flags := zn m s.flags })

/-- STA, STX and STY (R173 to R175), in all their forms: the byte at the resolved address and no other;
a store out of range is discarded. That STA (zp),Y completes in every state, under `P_ADDR_OVERFLOW =
fault` too, is the model's reading (log 12): R173 says its pointer read can still be fatal, and the model
follows R109. -/
def Obligations.StoreResult : Prop :=
  ∀ (b : Byte) (w : Word),
    (∀ f ∈ staForms b w, f.Stores State.a) ∧
    (∀ f ∈ stxForms b w, f.Stores State.x) ∧
    (∀ f ∈ styForms b w, f.Stores State.y)

/-! ## Logic and shifts -/

/-- AND, ORA and EOR (R180 to R182, R127), in all their forms, bit by bit: A, Z and N, and nothing else. -/
def Obligations.LogicResult : Prop :=
  ∀ (b : Byte) (w : Word),
    let effect (op : Bool → Bool → Bool) : State → Byte → State → State := fun s m t =>
      let r : Byte := BitVec.ofFnLE fun k => op (s.a.getLsbD k) (m.getLsbD k)
      { t with a := r, flags := zn r s.flags }
    (∀ f ∈ andForms b w, f.Reads (effect and)) ∧
    (∀ f ∈ oraForms b w, f.Reads (effect or)) ∧
    (∀ f ∈ eorForms b w, f.Reads (effect xor))

/-- BIT (R183, R128): Z from the AND, N and V from bits 7 and 6 of the operand, and nothing else. -/
def Obligations.BitTestResult : Prop :=
  ∀ (b : Byte) (w : Word), ∀ f ∈ bitForms b w, f.Reads fun s m t =>
    { t with flags := { s.flags with
        z := decide (∀ k : Fin 8, ¬(s.a.getLsbD k = true ∧ m.getLsbD k = true)),
        n := decide (128 ≤ m.toNat), v := decide (64 ≤ m.toNat % 128) } }

/-- ASL, LSR, ROL and ROR (R184 to R187, R123 to R126), in all their forms: the shifted byte as a
number, the bit shifted out to C, Z and N of the result; every other flag is unchanged. -/
def Obligations.ShiftResult : Prop :=
  ∀ (b : Byte) (w : Word),
    let Row (value : Byte → Nat → Nat) (out : Byte → Bool) :
        State → Byte → Byte → Flags → Prop := fun s v r fl =>
      r.toNat = value v (bit s.flags.c) ∧ fl = zn r { s.flags with c := out v }
    (∀ f ∈ aslForms b w, f.Modifies (Row (fun v _ => 2 * v.toNat % 256) (fun v => decide (128 ≤ v.toNat)))) ∧
    (∀ f ∈ lsrForms b w, f.Modifies (Row (fun v _ => v.toNat / 2) (fun v => decide (v.toNat % 2 = 1)))) ∧
    (∀ f ∈ rolForms b w, f.Modifies
      (Row (fun v c => 2 * v.toNat % 256 + c) (fun v => decide (128 ≤ v.toNat)))) ∧
    (∀ f ∈ rorForms b w, f.Modifies
      (Row (fun v c => v.toNat / 2 + 128 * c) (fun v => decide (v.toNat % 2 = 1))))

/-! ## Control transfer -/

/-- JMP absolute (R150) and indirect (R151): the target, and nothing else; the pointer's second byte is
at the next address, with no page wrap, and past 0xFFFF it wraps or is fatal. -/
def Obligations.JumpResult : Prop :=
  ∀ (s : State) (w : Word),
    (Instr.jmpAbs w).opcode = 0x4C ∧ (Instr.jmpInd w).opcode = 0x6C ∧
    exec (.jmpAbs w) s = .next { past 3 3 s with pc := w } ∧
    (w ≠ 0xFFFF ∨ s.params.addrOverflow = .wrap →
      exec (.jmpInd w) s = .next { past 3 5 s with
        pc := wordOf s.wordOrder (s.read w) (s.read (BitVec.ofNat 16 ((w.toNat + 1) % 65536))) }) ∧
    (w = 0xFFFF → s.params.addrOverflow = .fault →
      exec (.jmpInd w) s = .fault (.readRange 0x10000))

/-- JSR (R152): the address of its last byte is pushed, high byte first, and no byte but those two
changes. -/
def Obligations.JsrResult : Prop :=
  ∀ (s : State) (w : Word), s.mem.wf = true → (Instr.jsr w).opcode = 0x20 ∧
    let ret := (s.pc.toNat + 2) % 65536
    ∃ t, exec (.jsr w) s = .next t ∧
      t = { past 3 6 s with pc := w, sp := s.sp - 2, mem := t.mem } ∧
      (t.read (stackSlot s.sp)).toNat = ret / 256 ∧
      (t.read (stackSlot (s.sp - 1))).toNat = ret % 256 ∧
      ∀ a, a ≠ stackSlot s.sp → a ≠ stackSlot (s.sp - 1) → t.read a = s.read a

/-- RTS (R153): the pulled address plus one, low byte first, whatever the byte order. -/
def Obligations.RtsResult : Prop :=
  Implied .rts 0x60 6 fun s t =>
    { t with sp := s.sp + 2,
             pc := BitVec.ofNat 16 ((s.read (stackSlot (s.sp + 2))).toNat * 256
               + (s.read (stackSlot (s.sp + 1))).toNat + 1) }

/-- A subroutine returns (R153): RTS in any state with SP and the two pushed bytes as JSR left them goes to
the instruction after the JSR with SP as it was, whatever the byte order. The spec marks this corner case
of R153 as derived. -/
def Obligations.SubroutineReturns : Prop :=
  ∀ (s t u : State) (w : Word), s.mem.wf = true → exec (.jsr w) s = .next t →
    u.sp = t.sp → u.read (stackSlot s.sp) = t.read (stackSlot s.sp) →
    u.read (stackSlot (s.sp - 1)) = t.read (stackSlot (s.sp - 1)) →
    ∃ r, exec .rts u = .next r ∧ r.pc = s.pc + 3 ∧ r.sp = s.sp

/-- The eight conditional branches (R154 to R162): the flag each tests, the target, the cycles, and
nothing else. -/
def Obligations.BranchResult : Prop :=
  Branches .bcc 0x90 (·.c = false) ∧ Branches .bcs 0xB0 (·.c = true) ∧
  Branches .beq 0xF0 (·.z = true) ∧ Branches .bmi 0x30 (·.n = true) ∧
  Branches .bne 0xD0 (·.z = false) ∧ Branches .bpl 0x10 (·.n = false) ∧
  Branches .bvc 0x50 (·.v = false) ∧ Branches .bvs 0x70 (·.v = true)

/-! ## Stack, transfer, flags -/

/-- PHA (R190) and PHP (R191): the byte at `0x0100 | SP`, SP, and nothing else; PHP pushes bits 5 and 4
as 1 whatever the stored B. -/
def Obligations.PushResult : Prop :=
  ∀ s : State, s.mem.wf = true →
    let Pushes (i : Instr) (v : Nat) : Prop :=
      ∃ t, exec i s = .next t ∧ t = { past 1 3 s with sp := s.sp - 1, mem := t.mem } ∧
        (t.read (stackSlot s.sp)).toNat = v ∧ ∀ a, a ≠ stackSlot s.sp → t.read a = s.read a
    Instr.pha.opcode = 0x48 ∧ Instr.php.opcode = 0x08 ∧
    Pushes .pha s.a.toNat ∧
    Pushes .php (128 * bit s.flags.n + 64 * bit s.flags.v + 32 + 16 + 8 * bit s.flags.d
      + 4 * bit s.flags.i + 2 * bit s.flags.z + bit s.flags.c)

/-- PLA (R192) and PLP (R193): SP, then the byte at `0x0100 | SP`; PLP leaves B. -/
def Obligations.PullResult : Prop :=
  Implied .pla 0x68 4 (fun s t =>
    let v := s.read (stackSlot (s.sp + 1))
    { t with a := v, sp := s.sp + 1, flags := zn v s.flags }) ∧
  Implied .plp 0x28 4 (fun s t =>
    let v := s.read (stackSlot (s.sp + 1))
    { t with sp := s.sp + 1, flags :=
        { c := v.getLsbD 0, z := v.getLsbD 1, i := v.getLsbD 2, d := v.getLsbD 3, b := s.flags.b,
          v := v.getLsbD 6, n := v.getLsbD 7 } })

/-- The register transfers (R194 to R199): TXS writes no flag, the others Z and N. -/
def Obligations.TransferResult : Prop :=
  Implied .tax 0xAA 2 (fun s t => { t with x := s.a, flags := zn s.a s.flags }) ∧
  Implied .tay 0xA8 2 (fun s t => { t with y := s.a, flags := zn s.a s.flags }) ∧
  Implied .txa 0x8A 2 (fun s t => { t with a := s.x, flags := zn s.x s.flags }) ∧
  Implied .tya 0x98 2 (fun s t => { t with a := s.y, flags := zn s.y s.flags }) ∧
  Implied .tsx 0xBA 2 (fun s t => { t with x := s.sp, flags := zn s.sp s.flags }) ∧
  Implied .txs 0x9A 2 (fun s t => { t with sp := s.x })

/-- The flag instructions (R200 to R206) and NOP (R207). -/
def Obligations.FlagInstructionResult : Prop :=
  Implied .clc 0x18 2 (fun s t => { t with flags := { s.flags with c := false } }) ∧
  Implied .sec 0x38 2 (fun s t => { t with flags := { s.flags with c := true } }) ∧
  Implied .cli 0x58 2 (fun s t => { t with flags := { s.flags with i := false } }) ∧
  Implied .sei 0x78 2 (fun s t => { t with flags := { s.flags with i := true } }) ∧
  Implied .cld 0xD8 2 (fun s t => { t with flags := { s.flags with d := false } }) ∧
  Implied .sed 0xF8 2 (fun s t => { t with flags := { s.flags with d := true } }) ∧
  Implied .clv 0xB8 2 (fun s t => { t with flags := { s.flags with v := false } }) ∧
  Implied .nop 0xEA 2 (fun _ t => t)

/-! ## The trap -/

/-- BRK (R215, R226): the address past the padding byte and the status are pushed, I is set, `pc` is the
word at 0xFFFE in `word_order`, and nothing else changes; it is taken whatever I is. -/
def Obligations.BrkEntersTheTrap : Prop :=
  ∀ s : State, s.mem.wf = true → Instr.brk.opcode = 0x00 ∧
    let ret := (s.pc.toNat + 2) % 65536
    ∃ t, exec .brk s = .next t ∧
      t = { past 1 7 s with
        sp := s.sp - 3, mem := t.mem, flags := { s.flags with i := true },
        pc := wordOf s.wordOrder (s.read 0xFFFE) (s.read 0xFFFF) } ∧
      (t.read (stackSlot s.sp)).toNat = ret / 256 ∧
      (t.read (stackSlot (s.sp - 1))).toNat = ret % 256 ∧
      (t.read (stackSlot (s.sp - 2))).toNat = 128 * bit s.flags.n + 64 * bit s.flags.v + 32 + 16
        + 8 * bit s.flags.d + 4 * bit s.flags.i + 2 * bit s.flags.z + bit s.flags.c ∧
      ∀ a, a ≠ stackSlot s.sp → a ≠ stackSlot (s.sp - 1) → a ≠ stackSlot (s.sp - 2) →
        t.read a = s.read a

/-- RTI (R216): the status byte, then `pc` low and high, with nothing added; B is unchanged. -/
def Obligations.RtiResult : Prop :=
  Implied .rti 0x40 6 fun s t =>
    let v := s.read (stackSlot (s.sp + 1))
    { t with
      sp := s.sp + 3,
      flags := { c := v.getLsbD 0, z := v.getLsbD 1, i := v.getLsbD 2, d := v.getLsbD 3,
                 b := s.flags.b, v := v.getLsbD 6, n := v.getLsbD 7 },
      pc := BitVec.ofNat 16 ((s.read (stackSlot (s.sp + 3))).toNat * 256
        + (s.read (stackSlot (s.sp + 2))).toNat) }

/-- A trap returns (R216, R228): RTI in any state with SP and the three pushed bytes as BRK left them goes to
the BRK's address plus two, with SP and the six flags as they were before the BRK. The spec marks this
corner case of R216 as derived. -/
def Obligations.TrapReturns : Prop :=
  ∀ s t u : State, s.mem.wf = true → exec .brk s = .next t → u.sp = t.sp →
    u.read (stackSlot s.sp) = t.read (stackSlot s.sp) →
    u.read (stackSlot (s.sp - 1)) = t.read (stackSlot (s.sp - 1)) →
    u.read (stackSlot (s.sp - 2)) = t.read (stackSlot (s.sp - 2)) →
    ∃ r, exec .rti u = .next r ∧ r.pc = s.pc + 2 ∧ r.sp = s.sp ∧
      r.flags = { s.flags with b := u.flags.b }

/-! ## Reset and the host -/

/-- Reset (R240, R241, R36): from any state with no fatal, the canonical values, every byte of memory 0,
and the counter, the byte order and the refusal mark unchanged; after a fatal it has no effect. That it
keeps the list of events is the model's (log 6), and that it lets the host set the byte order again after
a session that has had an execute call (log 23). -/
def Obligations.ResetGivesTheTable : Prop :=
  ∀ s : State,
    (s.fatal = none →
      let v := s.params.init
      s.resetOp = { s with
        pc := 0xFFFC, sp := 0xFF, a := v.a, x := v.x, y := v.y,
        flags := ⟨v.c, v.z, true, false, v.b, v.v, v.n⟩,
        orderSetup := (if s.orderSetup = .locked then .awaited else s.orderSetup),
        mem := s.resetOp.mem, resetDone := true, budget := none } ∧
      ∀ a, s.resetOp.read a = 0) ∧
    (s.fatal ≠ none → s.resetOp = s)

/-- The host's memory port (R44): between execute calls an access below 0x10000 reads or writes that
byte alone; a read above is fatal and sets the latch, a write above changes nothing and says so. That
the fatal read sets the latch and changes nothing else is the model's reading of R44 with R31 (log 19). -/
def Obligations.HostPortBounds : Prop :=
  ∀ (s : State) (n : Nat) (v : Byte), s.fatal = none → s.budget = none → s.mem.wf = true →
    (n < 0x10000 →
      s.hostRead n = some (.byte (s.read (BitVec.ofNat 16 n)), s) ∧
      ∃ t, s.hostWrite n v = some (.ok, t) ∧ t = { s with mem := t.mem } ∧
        ∀ a, t.read a = if a.toNat = n then v else s.read a) ∧
    (0x10000 ≤ n →
      s.hostRead n = some (.fatal (.readRange n), { s with fatal := some (.readRange n) }) ∧
      s.hostWrite n v = some (.failed, s))

/-- The host's other moves (R37, R45, R245). Between execute calls it resets (R240), calls execute (R78), reads every register and flag and writes
each of them modulo its width, changing nothing else (that a flag's width is one bit is the model's reading,
log 18). It sets the byte order, `Auto` being its own, where it is still to be set, and after an execute
call of the session it cannot (that a second setting is refused, and what counts as still to be set, is the
model's, logs 20 and 23). While a call runs it has no move at all, which the model says by `none` (log 17). -/
def Obligations.HostMovesBetweenCalls : Prop :=
  ∀ s : State,
    (s.fatal = none → s.budget = none →
      s.hostReset = some s.resetOp ∧ (∀ n, s.hostExecute n = some (s.execute n)) ∧
      (∀ r : HostReg, s.hostReadReg r = some (match r with
        | .a => s.a.toNat
        | .x => s.x.toNat
        | .y => s.y.toNat
        | .sp => s.sp.toNat
        | .pc => s.pc.toNat
        | .c => bit s.flags.c
        | .z => bit s.flags.z
        | .i => bit s.flags.i
        | .d => bit s.flags.d
        | .b => bit s.flags.b
        | .v => bit s.flags.v
        | .n => bit s.flags.n)) ∧
      (∀ (r : HostReg) (k : Nat), ∃ t, s.hostWriteReg r k = some t ∧
        t.hostReadReg r = some (k % (match r with
          | .pc => 65536
          | .a | .x | .y | .sp => 256
          | _ => 2)) ∧
        (∀ q, q ≠ r → t.hostReadReg q = s.hostReadReg q) ∧
        t = { s with a := t.a, x := t.x, y := t.y, sp := t.sp, pc := t.pc, flags := t.flags }) ∧
      (∀ (native : WordOrder) (m : EndianMode),
        (s.orderSetup = .awaited → s.hostConfigure native m = some { s with
          orderSetup := .chosen,
          wordOrder := match m with
            | .little => .little
            | .big => .big
            | .auto => native }) ∧
        (s.orderSetup ≠ .awaited → s.hostConfigure native m = none) ∧
        (s.refused = none → s.resetDone = true →
          ∀ n, (s.execute n).2.hostConfigure native m = none))) ∧
    (s.budget ≠ none →
      s.hostReset = none ∧ (∀ n, s.hostExecute n = none) ∧
      (∀ n v, s.hostWrite n v = none) ∧ (∀ n, s.hostRead n = none) ∧
      (∀ q, s.hostReadReg q = none) ∧ (∀ q k, s.hostWriteReg q k = none) ∧
      ∀ native m, s.hostConfigure native m = none)
end

