-- ==== Sys2Proof/Laws/Bytes.lean ====
section
/-! SUPPORT. Bytes and words as numbers: the two bytes of a word, and a word from its two bytes. -/

namespace Sys2Proof

theorem toNat_loByte (w : Word) : (loByte w).toNat = w.toNat % 256 := by
  simp [loByte]

theorem toNat_hiByte (w : Word) : (hiByte w).toNat = w.toNat / 256 := by
  have := w.isLt
  simp only [hiByte, BitVec.toNat_setWidth, BitVec.toNat_ushiftRight, Nat.shiftRight_eq_div_pow]
  omega

/-- Two bytes put together as a number. -/
theorem toNat_append (hi lo : Byte) : ((hi ++ lo : BitVec (8 + 8)).toNat) = hi.toNat * 256 + lo.toNat := by
  have := lo.isLt
  rw [BitVec.toNat_append, Nat.shiftLeft_eq, Nat.mul_comm, ← Nat.two_pow_add_eq_or_of_lt this hi.toNat]

/-- The two bytes of a word put together are the word. -/
theorem hiByte_append_loByte (w : Word) : (hiByte w ++ loByte w : BitVec (8 + 8)) = w := by
  apply BitVec.eq_of_toNat_eq
  have := toNat_append (hiByte w) (loByte w)
  rw [toNat_hiByte, toNat_loByte] at this
  rw [this]
  omega

theorem hiByte_append (hi lo : Byte) : hiByte (hi ++ lo : BitVec (8 + 8)) = hi := by
  apply BitVec.eq_of_toNat_eq
  have := lo.isLt
  rw [toNat_hiByte, toNat_append]
  omega

theorem loByte_append (hi lo : Byte) : loByte (hi ++ lo : BitVec (8 + 8)) = lo := by
  apply BitVec.eq_of_toNat_eq
  have := lo.isLt
  rw [toNat_loByte, toNat_append]
  omega

theorem joinBytes_little (b0 b1 : Byte) : joinBytes .little b0 b1 = (b1 ++ b0 : BitVec (8 + 8)) := rfl

theorem joinBytes_big (b0 b1 : Byte) : joinBytes .big b0 b1 = (b0 ++ b1 : BitVec (8 + 8)) := rfl

/-! ## The two digits of a byte -/

theorem toNat_and_0x0F (x : Byte) : (x &&& 0x0F).toNat = x.toNat % 16 := by
  rw [BitVec.toNat_and]
  exact Nat.and_two_pow_sub_one_eq_mod x.toNat 4

theorem toNat_and_0xF0 (x : Byte) : (x &&& 0xF0).toNat = x.toNat / 16 * 16 := by
  revert x
  decide

end Sys2Proof
end

