-- ==== Sys2Proof/Laws/Decode.lean ====
section
/-! SUPPORT. The opcode map against the encoder's table, and the byte order of an operand word. -/

namespace Sys2Proof

/-- The instruction a format makes of an operand, where the operand is of its kind. -/
def Format.fill : Format → OperandField → Option Instr
  | .f1 i, .none   => some i
  | .f2 f, .byte b => some (f b)
  | .f3 f, .word w => some (f w)
  | _, _           => none

/-- The opcode map leads from an instruction's opcode and operand back to the instruction. -/
theorem opcodeFormat_fill (i : Instr) :
    ((opcodeFormat i.opcode).bind fun f => f.fill i.operandField) = some i := by
  cases i <;> (simp only [Instr.opcode]; rfl)

/-- An opcode is recognized exactly when the set has its instructions. -/
theorem recognized_opcode (set : OpcodeSet) (i : Instr) : recognized set i.opcode = i.wellFormed set := by
  cases set <;> cases i <;> (simp only [Instr.opcode]; rfl)

/-- Splitting a word in either order and joining it again. -/
theorem splitWord_join (order : WordOrder) (w : Word) :
    ∃ b0 b1, splitWord order w = [b0, b1] ∧ joinBytes order b0 b1 = w := by
  cases order <;> exact ⟨_, _, rfl, hiByte_append_loByte w⟩

/-- Joining two bytes in either order and splitting the word again. -/
theorem splitWord_joinBytes (order : WordOrder) (b0 b1 : Byte) :
    splitWord order (joinBytes order b0 b1) = [b0, b1] := by
  cases order
  · rw [joinBytes_little, splitWord, hiByte_append, loByte_append]
  · rw [joinBytes_big, splitWord, hiByte_append, loByte_append]

end Sys2Proof
end

