-- ==== Sys2Proof/Laws/State.lean ====
section
/-! SUPPORT. One lemma per field per update: what each named operation leaves in each field of the state, true by `rfl`, so that no
later proof unfolds a record update. -/

namespace Sys2Proof.Machine.State

variable (s : State)

/-! ## write -/

@[simp] theorem write_a (a : Word) (v : Byte) : (s.write a v).a = s.a := rfl
@[simp] theorem write_x (a : Word) (v : Byte) : (s.write a v).x = s.x := rfl
@[simp] theorem write_y (a : Word) (v : Byte) : (s.write a v).y = s.y := rfl
@[simp] theorem write_sp (a : Word) (v : Byte) : (s.write a v).sp = s.sp := rfl
@[simp] theorem write_pc (a : Word) (v : Byte) : (s.write a v).pc = s.pc := rfl
@[simp] theorem write_flags (a : Word) (v : Byte) : (s.write a v).flags = s.flags := rfl
@[simp] theorem write_mem (a : Word) (v : Byte) : (s.write a v).mem = s.mem.write a.toNat v := rfl
@[simp] theorem write_wordOrder (a : Word) (v : Byte) : (s.write a v).wordOrder = s.wordOrder := rfl
@[simp] theorem write_orderSetup (a : Word) (v : Byte) : (s.write a v).orderSetup = s.orderSetup := rfl
@[simp] theorem write_resetDone (a : Word) (v : Byte) : (s.write a v).resetDone = s.resetDone := rfl
@[simp] theorem write_illegalCount (a : Word) (v : Byte) : (s.write a v).illegalCount = s.illegalCount := rfl
@[simp] theorem write_fatal (a : Word) (v : Byte) : (s.write a v).fatal = s.fatal := rfl
@[simp] theorem write_refused (a : Word) (v : Byte) : (s.write a v).refused = s.refused := rfl
@[simp] theorem write_budget (a : Word) (v : Byte) : (s.write a v).budget = s.budget := rfl
@[simp] theorem write_events (a : Word) (v : Byte) : (s.write a v).events = s.events := rfl
@[simp] theorem write_params (a : Word) (v : Byte) : (s.write a v).params = s.params := rfl

/-! ## fetched -/

@[simp] theorem fetched_a (i : Instr) : (s.fetched i).a = s.a := rfl
@[simp] theorem fetched_x (i : Instr) : (s.fetched i).x = s.x := rfl
@[simp] theorem fetched_y (i : Instr) : (s.fetched i).y = s.y := rfl
@[simp] theorem fetched_sp (i : Instr) : (s.fetched i).sp = s.sp := rfl
@[simp] theorem fetched_pc (i : Instr) : (s.fetched i).pc = s.pc + BitVec.ofNat 16 i.length := rfl
@[simp] theorem fetched_flags (i : Instr) : (s.fetched i).flags = s.flags := rfl
@[simp] theorem fetched_mem (i : Instr) : (s.fetched i).mem = s.mem := rfl
@[simp] theorem fetched_wordOrder (i : Instr) : (s.fetched i).wordOrder = s.wordOrder := rfl
@[simp] theorem fetched_orderSetup (i : Instr) : (s.fetched i).orderSetup = s.orderSetup := rfl
@[simp] theorem fetched_resetDone (i : Instr) : (s.fetched i).resetDone = s.resetDone := rfl
@[simp] theorem fetched_illegalCount (i : Instr) : (s.fetched i).illegalCount = s.illegalCount := rfl
@[simp] theorem fetched_fatal (i : Instr) : (s.fetched i).fatal = s.fatal := rfl
@[simp] theorem fetched_refused (i : Instr) : (s.fetched i).refused = s.refused := rfl
@[simp] theorem fetched_budget (i : Instr) : (s.fetched i).budget = s.budget := rfl
@[simp] theorem fetched_events (i : Instr) : (s.fetched i).events = s.events := rfl
@[simp] theorem fetched_params (i : Instr) : (s.fetched i).params = s.params := rfl

/-! ## charge -/

@[simp] theorem charge_a (n : Nat) : (s.charge n).a = s.a := rfl
@[simp] theorem charge_x (n : Nat) : (s.charge n).x = s.x := rfl
@[simp] theorem charge_y (n : Nat) : (s.charge n).y = s.y := rfl
@[simp] theorem charge_sp (n : Nat) : (s.charge n).sp = s.sp := rfl
@[simp] theorem charge_pc (n : Nat) : (s.charge n).pc = s.pc := rfl
@[simp] theorem charge_flags (n : Nat) : (s.charge n).flags = s.flags := rfl
@[simp] theorem charge_mem (n : Nat) : (s.charge n).mem = s.mem := rfl
@[simp] theorem charge_wordOrder (n : Nat) : (s.charge n).wordOrder = s.wordOrder := rfl
@[simp] theorem charge_orderSetup (n : Nat) : (s.charge n).orderSetup = s.orderSetup := rfl
@[simp] theorem charge_resetDone (n : Nat) : (s.charge n).resetDone = s.resetDone := rfl
@[simp] theorem charge_illegalCount (n : Nat) : (s.charge n).illegalCount = s.illegalCount := rfl
@[simp] theorem charge_fatal (n : Nat) : (s.charge n).fatal = s.fatal := rfl
@[simp] theorem charge_refused (n : Nat) : (s.charge n).refused = s.refused := rfl
@[simp] theorem charge_budget (n : Nat) : (s.charge n).budget = s.budget.map (fun b => b - (n : Int)) := rfl
@[simp] theorem charge_events (n : Nat) : (s.charge n).events = s.events := rfl
@[simp] theorem charge_params (n : Nat) : (s.charge n).params = s.params := rfl

/-! ## setZN -/

@[simp] theorem setZN_a (r : Byte) : (s.setZN r).a = s.a := rfl
@[simp] theorem setZN_x (r : Byte) : (s.setZN r).x = s.x := rfl
@[simp] theorem setZN_y (r : Byte) : (s.setZN r).y = s.y := rfl
@[simp] theorem setZN_sp (r : Byte) : (s.setZN r).sp = s.sp := rfl
@[simp] theorem setZN_pc (r : Byte) : (s.setZN r).pc = s.pc := rfl
@[simp] theorem setZN_flags (r : Byte) : (s.setZN r).flags = s.flags.setZN r := rfl
@[simp] theorem setZN_mem (r : Byte) : (s.setZN r).mem = s.mem := rfl
@[simp] theorem setZN_wordOrder (r : Byte) : (s.setZN r).wordOrder = s.wordOrder := rfl
@[simp] theorem setZN_orderSetup (r : Byte) : (s.setZN r).orderSetup = s.orderSetup := rfl
@[simp] theorem setZN_resetDone (r : Byte) : (s.setZN r).resetDone = s.resetDone := rfl
@[simp] theorem setZN_illegalCount (r : Byte) : (s.setZN r).illegalCount = s.illegalCount := rfl
@[simp] theorem setZN_fatal (r : Byte) : (s.setZN r).fatal = s.fatal := rfl
@[simp] theorem setZN_refused (r : Byte) : (s.setZN r).refused = s.refused := rfl
@[simp] theorem setZN_budget (r : Byte) : (s.setZN r).budget = s.budget := rfl
@[simp] theorem setZN_events (r : Byte) : (s.setZN r).events = s.events := rfl
@[simp] theorem setZN_params (r : Byte) : (s.setZN r).params = s.params := rfl

/-! ## push -/

@[simp] theorem push_a (v : Byte) : (s.push v).a = s.a := rfl
@[simp] theorem push_x (v : Byte) : (s.push v).x = s.x := rfl
@[simp] theorem push_y (v : Byte) : (s.push v).y = s.y := rfl
@[simp] theorem push_sp (v : Byte) : (s.push v).sp = s.sp - 1 := rfl
@[simp] theorem push_pc (v : Byte) : (s.push v).pc = s.pc := rfl
@[simp] theorem push_flags (v : Byte) : (s.push v).flags = s.flags := rfl
@[simp] theorem push_mem (v : Byte) : (s.push v).mem = s.mem.write (stackAddr s.sp).toNat v := rfl
@[simp] theorem push_wordOrder (v : Byte) : (s.push v).wordOrder = s.wordOrder := rfl
@[simp] theorem push_orderSetup (v : Byte) : (s.push v).orderSetup = s.orderSetup := rfl
@[simp] theorem push_resetDone (v : Byte) : (s.push v).resetDone = s.resetDone := rfl
@[simp] theorem push_illegalCount (v : Byte) : (s.push v).illegalCount = s.illegalCount := rfl
@[simp] theorem push_fatal (v : Byte) : (s.push v).fatal = s.fatal := rfl
@[simp] theorem push_refused (v : Byte) : (s.push v).refused = s.refused := rfl
@[simp] theorem push_budget (v : Byte) : (s.push v).budget = s.budget := rfl
@[simp] theorem push_events (v : Byte) : (s.push v).events = s.events := rfl
@[simp] theorem push_params (v : Byte) : (s.push v).params = s.params := rfl

/-! ## pull -/

@[simp] theorem pull_a : (s.pull.2).a = s.a := rfl
@[simp] theorem pull_x : (s.pull.2).x = s.x := rfl
@[simp] theorem pull_y : (s.pull.2).y = s.y := rfl
@[simp] theorem pull_sp : (s.pull.2).sp = s.sp + 1 := rfl
@[simp] theorem pull_pc : (s.pull.2).pc = s.pc := rfl
@[simp] theorem pull_flags : (s.pull.2).flags = s.flags := rfl
@[simp] theorem pull_mem : (s.pull.2).mem = s.mem := rfl
@[simp] theorem pull_wordOrder : (s.pull.2).wordOrder = s.wordOrder := rfl
@[simp] theorem pull_orderSetup : (s.pull.2).orderSetup = s.orderSetup := rfl
@[simp] theorem pull_resetDone : (s.pull.2).resetDone = s.resetDone := rfl
@[simp] theorem pull_illegalCount : (s.pull.2).illegalCount = s.illegalCount := rfl
@[simp] theorem pull_fatal : (s.pull.2).fatal = s.fatal := rfl
@[simp] theorem pull_refused : (s.pull.2).refused = s.refused := rfl
@[simp] theorem pull_budget : (s.pull.2).budget = s.budget := rfl
@[simp] theorem pull_events : (s.pull.2).events = s.events := rfl
@[simp] theorem pull_params : (s.pull.2).params = s.params := rfl

/-! ## pushWord -/

@[simp] theorem pushWord_a (w : Word) : (s.pushWord w).a = s.a := rfl
@[simp] theorem pushWord_x (w : Word) : (s.pushWord w).x = s.x := rfl
@[simp] theorem pushWord_y (w : Word) : (s.pushWord w).y = s.y := rfl
@[simp] theorem pushWord_pc (w : Word) : (s.pushWord w).pc = s.pc := rfl
@[simp] theorem pushWord_flags (w : Word) : (s.pushWord w).flags = s.flags := rfl
@[simp] theorem pushWord_wordOrder (w : Word) : (s.pushWord w).wordOrder = s.wordOrder := rfl
@[simp] theorem pushWord_orderSetup (w : Word) : (s.pushWord w).orderSetup = s.orderSetup := rfl
@[simp] theorem pushWord_resetDone (w : Word) : (s.pushWord w).resetDone = s.resetDone := rfl
@[simp] theorem pushWord_illegalCount (w : Word) : (s.pushWord w).illegalCount = s.illegalCount := rfl
@[simp] theorem pushWord_fatal (w : Word) : (s.pushWord w).fatal = s.fatal := rfl
@[simp] theorem pushWord_refused (w : Word) : (s.pushWord w).refused = s.refused := rfl
@[simp] theorem pushWord_budget (w : Word) : (s.pushWord w).budget = s.budget := rfl
@[simp] theorem pushWord_events (w : Word) : (s.pushWord w).events = s.events := rfl
@[simp] theorem pushWord_params (w : Word) : (s.pushWord w).params = s.params := rfl

/-! ## pullWord -/

@[simp] theorem pullWord_a : (s.pullWord.2).a = s.a := rfl
@[simp] theorem pullWord_x : (s.pullWord.2).x = s.x := rfl
@[simp] theorem pullWord_y : (s.pullWord.2).y = s.y := rfl
@[simp] theorem pullWord_pc : (s.pullWord.2).pc = s.pc := rfl
@[simp] theorem pullWord_flags : (s.pullWord.2).flags = s.flags := rfl
@[simp] theorem pullWord_mem : (s.pullWord.2).mem = s.mem := rfl
@[simp] theorem pullWord_wordOrder : (s.pullWord.2).wordOrder = s.wordOrder := rfl
@[simp] theorem pullWord_orderSetup : (s.pullWord.2).orderSetup = s.orderSetup := rfl
@[simp] theorem pullWord_resetDone : (s.pullWord.2).resetDone = s.resetDone := rfl
@[simp] theorem pullWord_illegalCount : (s.pullWord.2).illegalCount = s.illegalCount := rfl
@[simp] theorem pullWord_fatal : (s.pullWord.2).fatal = s.fatal := rfl
@[simp] theorem pullWord_refused : (s.pullWord.2).refused = s.refused := rfl
@[simp] theorem pullWord_budget : (s.pullWord.2).budget = s.budget := rfl
@[simp] theorem pullWord_events : (s.pullWord.2).events = s.events := rfl
@[simp] theorem pullWord_params : (s.pullWord.2).params = s.params := rfl

/-! ## Reads that no update of another field moves -/

@[simp] theorem read_fetched (i : Instr) (a : Word) : (s.fetched i).read a = s.read a := rfl
@[simp] theorem read_charge (n : Nat) (a : Word) : (s.charge n).read a = s.read a := rfl
@[simp] theorem read_setZN (r : Byte) (a : Word) : (s.setZN r).read a = s.read a := rfl
@[simp] theorem read_pull (a : Word) : s.pull.2.read a = s.read a := rfl
@[simp] theorem pull_fst : s.pull.1 = s.read (stackAddr (s.sp + 1)) := rfl
@[simp] theorem pullWord_sp : s.pullWord.2.sp = s.sp + 1 + 1 := rfl
@[simp] theorem pushWord_sp (w : Word) : (s.pushWord w).sp = s.sp - 1 - 1 := rfl

end Sys2Proof.Machine.State
end

