-- ==== Sys2Proof/Laws/Memory.lean ====
section
/-! SUPPORT. The laws of memory: the canonical form is kept by every operation, a read after a write, and equal reads make equal
memories. -/

namespace Sys2Proof.Machine

namespace Memory

theorem wfFrom_mono {lo hi : Nat} (h : lo ≤ hi) : ∀ {m : Memory}, wfFrom hi m = true → wfFrom lo m = true
  | [], _ => rfl
  | (a, v) :: m, hm => by
    simp only [wfFrom, Bool.and_eq_true, decide_eq_true_eq] at hm ⊢
    exact ⟨⟨⟨by omega, hm.1.1.2⟩, hm.1.2⟩, hm.2⟩

/-- Below its first address a canonical memory reads as unlisted. -/
theorem read_of_lt {lo : Nat} : ∀ {m : Memory}, wfFrom lo m = true → ∀ {a}, a < lo → m.read a = unlistedByte
  | [], _, _, _ => rfl
  | (k, v) :: m, hm, a, ha => by
    simp only [wfFrom, Bool.and_eq_true, decide_eq_true_eq] at hm
    simp only [read, if_neg (show ¬k = a by omega)]
    exact read_of_lt hm.2 (by omega)

theorem wfFrom_write {lo a : Nat} (v : Byte) (hlo : lo ≤ a) (ha : a < memCapacity) :
    ∀ {m : Memory}, wfFrom lo m = true → wfFrom lo (m.write a v) = true
  | [], _ => by
    by_cases hv : v = unlistedByte <;> simp [write, wfFrom, hv, hlo, ha]
  | (k, w) :: m, hm => by
    simp only [wfFrom, Bool.and_eq_true, decide_eq_true_eq] at hm
    obtain ⟨⟨⟨hk, hk'⟩, hw⟩, hm⟩ := hm
    by_cases h1 : k < a
    · simp only [write, if_pos h1, wfFrom, Bool.and_eq_true, decide_eq_true_eq]
      exact ⟨⟨⟨hk, hk'⟩, hw⟩, wfFrom_write v h1 ha hm⟩
    · by_cases h2 : k = a
      · subst h2
        by_cases hv : v = unlistedByte
        · simp only [write, if_neg h1, if_true, if_pos hv]
          exact wfFrom_mono (by omega) hm
        · simp [write, wfFrom, hv, hk, hk', hm]
      · have h3 : a + 1 ≤ k := by omega
        by_cases hv : v = unlistedByte
        · simp [write, h1, h2, hv, wfFrom, hk, hk', hm]; simpa using hw
        · simp [write, h1, h2, hv, wfFrom, hlo, ha, h3, hk', hm]; simpa using hw

/-- A write inside memory keeps the canonical form. -/
theorem wf_write {a : Nat} (v : Byte) (ha : a < memCapacity) {m : Memory} (hm : m.wf = true) :
    (m.write a v).wf = true := wfFrom_write v (Nat.zero_le a) ha hm

/-- A read after a write of a canonical memory. -/
theorem read_write_from {lo a : Nat} (v : Byte) (b : Nat) :
    ∀ {m : Memory}, wfFrom lo m = true → (m.write a v).read b = if a = b then v else m.read b
  | [], _ => by
    by_cases hv : v = unlistedByte
    · simp [write, hv, read]
    · simp [write, hv, read]
  | (k, w) :: m, hm => by
    simp only [wfFrom, Bool.and_eq_true, decide_eq_true_eq] at hm
    obtain ⟨_, hm⟩ := hm
    by_cases h1 : k < a
    · have ih := read_write_from (a := a) v b hm
      simp only [write, if_pos h1, read, ih]
      by_cases hkb : k = b
      · simp [hkb, show ¬a = b by omega]
      · simp [hkb]
    · by_cases h2 : k = a
      · subst h2
        by_cases hv : v = unlistedByte
        · simp only [write, if_neg h1, if_true, if_pos hv, read]
          by_cases hkb : k = b
          · subst hkb; simp only [if_true]; rw [read_of_lt hm (by omega), hv]
          · simp [hkb]
        · simp only [write, if_neg h1, if_true, if_neg hv, read]
          by_cases hkb : k = b <;> simp [hkb]
      · by_cases hv : v = unlistedByte
        · simp only [write, if_neg h1, if_neg h2, if_pos hv]
          by_cases hab : a = b
          · subst hab
            simp only [read, if_neg h2, if_true]
            rw [read_of_lt hm (by omega), hv]
          · simp [hab]
        · simp only [write, if_neg h1, if_neg h2, if_neg hv]
          by_cases hab : a = b <;> simp [read, hab]

/-- A read after a write: the written byte at the written address, the old byte elsewhere. -/
theorem read_write {m : Memory} (hm : m.wf = true) (a b : Nat) (v : Byte) :
    (m.write a v).read b = if a = b then v else m.read b := read_write_from v b hm

/-- Memories in canonical form that read alike are equal. -/
theorem eq_of_read_eq_from {lo : Nat} : ∀ {m m' : Memory}, wfFrom lo m = true → wfFrom lo m' = true →
    (∀ a, m.read a = m'.read a) → m = m'
  | [], [], _, _, _ => rfl
  | [], (k, w) :: m', _, hm', h => by
    simp only [wfFrom, Bool.and_eq_true, bne_iff_ne] at hm'
    have := h k
    simp only [read, if_true] at this
    exact absurd this.symm hm'.1.2
  | (k, w) :: m, [], hm, _, h => by
    simp only [wfFrom, Bool.and_eq_true, bne_iff_ne] at hm
    have := h k
    simp only [read, if_true] at this
    exact absurd this hm.1.2
  | (k, w) :: m, (k', w') :: m', hm, hm', h => by
    simp only [wfFrom, Bool.and_eq_true, bne_iff_ne, decide_eq_true_eq] at hm hm'
    have hk : k = k' := by
      rcases Nat.lt_trichotomy k k' with hlt | heq | hgt
      · have := h k
        simp only [read, if_true, if_neg (show ¬k' = k by omega)] at this
        rw [read_of_lt hm'.2 (by omega)] at this
        exact absurd this hm.1.2
      · exact heq
      · have := h k'
        simp only [read, if_true, if_neg (show ¬k = k' by omega)] at this
        rw [read_of_lt hm.2 (by omega)] at this
        exact absurd this.symm hm'.1.2
    subst hk
    have hw : w = w' := by simpa [read] using h k
    subst hw
    have htail : m = m' := eq_of_read_eq_from hm.2 hm'.2 (fun a => by
      by_cases ha : a < k + 1
      · rw [read_of_lt hm.2 ha, read_of_lt hm'.2 ha]
      · simpa [read, if_neg (show ¬k = a by omega)] using h a)
    rw [htail]

theorem eq_of_read_eq {m m' : Memory} (hm : m.wf = true) (hm' : m'.wf = true)
    (h : ∀ a, m.read a = m'.read a) : m = m' := eq_of_read_eq_from hm hm' h

end Memory

namespace State

theorem wf_write {s : State} (a : Word) (v : Byte) (hs : s.mem.wf = true) : (s.write a v).mem.wf = true :=
  Memory.wf_write v a.isLt hs

theorem wf_push {s : State} (v : Byte) (hs : s.mem.wf = true) : (s.push v).mem.wf = true :=
  wf_write (stackAddr s.sp) v hs

theorem wf_pushWord {s : State} (w : Word) (hs : s.mem.wf = true) : (s.pushWord w).mem.wf = true :=
  wf_push _ (wf_push _ hs)

theorem wf_takeTrap {s : State} (ret : Word) (hs : s.mem.wf = true) : (s.takeTrap ret).mem.wf = true :=
  wf_push _ (wf_pushWord _ hs)

theorem wf_writePlace {s : State} (v : Byte) (p : Place) (hs : s.mem.wf = true) :
    (s.writePlace v p).mem.wf = true := by
  cases p with
  | value _ => exact hs
  | acc => exact hs
  | mem ea =>
    cases ea with
    | addr a => exact wf_write a v hs
    | oor n => exact hs

theorem wf_writeBytes : ∀ (vs : List Byte) {s : State} (a : Word), s.mem.wf = true →
    (s.writeBytes a vs).mem.wf = true
  | [], _, _, hs => hs
  | v :: vs, s, a, hs => wf_writeBytes vs (s := s.write a v) (a + 1) (wf_write a v hs)

/-- A read after a write of a machine in canonical form. -/
theorem read_write {s : State} (hs : s.mem.wf = true) (a b : Word) (v : Byte) :
    (s.write a v).read b = if a = b then v else s.read b := by
  simp only [State.read, State.write]
  rw [Memory.read_write hs]
  simp [BitVec.toNat_inj]

end State

end Sys2Proof.Machine
end

