-- ==== Sys2Proof/Laws/Operands.lean ====
section
/-! SUPPORT. What each shared operation can do, said once: the shapes of an instruction's step, the operand reads, and the checks
around them. -/

namespace Sys2Proof.Machine

/-! ## Operands -/

theorem addrAdd_wrap (a k : Word) : addrAdd .wrap a k = .addr (a + k) := by
  unfold addrAdd; split <;> rfl

/-- Under `wrap` every operand is readable. -/
theorem operand_ok_of_wrap {s : State} (h : s.params.addrOverflow = .wrap) (o : Operand) :
    ∃ m, s.operand o = .ok m := by
  cases o <;>
    simp [State.operand, State.resolve, State.readPlace, State.indexed, State.readAt, h, addrAdd_wrap]

/-- The one fault an operand read can raise. -/
theorem operand_error {s : State} {o : Operand} {f : Fault} (h : s.operand o = .error f) :
    ∃ n, (s.resolve o).place = .mem (.oor n) ∧ f = .readRange n := by
  unfold State.operand at h
  generalize (s.resolve o).place = p at h
  cases p with
  | value v => simp [State.readPlace] at h
  | acc => simp [State.readPlace] at h
  | mem ea =>
    cases ea with
    | addr a => simp [State.readPlace, State.readAt] at h
    | oor n => exact ⟨n, rfl, by simpa [State.readPlace, State.readAt] using h.symm⟩

/-- An operand that is readable and in memory is at a 16-bit address. -/
theorem place_of_operand_ok {s : State} {o : Operand} {m : Byte} (h : s.operand o = .ok m) :
    ∀ n, (s.resolve o).place ≠ .mem (.oor n) := by
  intro n hp
  simp [State.operand, hp, State.readPlace, State.readAt] at h

/-- Under `wrap` a word read cannot fault. -/
theorem readWord_wrap {s : State} (h : s.params.addrOverflow = .wrap) (a : Word) :
    s.readWord a = .ok (s.wordAt a (a + 1)) := by
  simp [State.readWord, State.readAt, h, addrAdd_wrap, State.wordAt]

/-! ## The shapes of a step -/

theorem finish_eq_next {s t : State} {n : Nat} : s.finish n = .next t ↔ s.charge n = t := by
  simp [State.finish]

/-- A reading instruction completes exactly when its operand is readable. -/
theorem readOp_next {i : Instr} {o : Operand} {apply : Byte → State → State} {s t : State} :
    readOp i o apply s = .next t ↔
      ∃ m, s.operand o = .ok m ∧ t = (apply m (s.fetched i)).charge (i.cost (s.crosses o)) := by
  unfold readOp
  cases s.operand o <;> simp [State.finish, eq_comm]

theorem readOp_fault {i : Instr} {o : Operand} {apply : Byte → State → State} {s : State} {f : Fault} :
    readOp i o apply s = .fault f ↔ s.operand o = .error f := by
  unfold readOp
  cases s.operand o <;> simp [State.finish]

theorem readOp_ne_refused {i : Instr} {o : Operand} {apply : Byte → State → State} {s : State} {r : Refusal} :
    readOp i o apply s ≠ .refused r := by
  unfold readOp
  cases s.operand o <;> simp [State.finish]

/-- A store always completes. -/
theorem storeOp_next {i : Instr} {o : Operand} {v : Byte} {s t : State} :
    storeOp i o v s = .next t ↔
      t = ((s.fetched i).writePlace v (s.resolve o).place).charge (i.cost (s.crosses o)) := by
  simp [storeOp, State.finish, eq_comm]

/-- A read-modify-write instruction completes exactly when its operand is readable. -/
theorem modifyOp_next {i : Instr} {o : Operand} {result : Byte → Byte} {flags : Byte → Flags → Flags}
    {s t : State} :
    modifyOp i o result flags s = .next t ↔
      ∃ v, s.operand o = .ok v ∧ t = ({ (s.fetched i).writePlace (result v) (s.resolve o).place with
        flags := flags v s.flags }).charge (i.cost (s.crosses o)) := by
  unfold modifyOp
  have hf : ∀ v p, ((s.fetched i).writePlace v p).flags = s.flags := by
    intro v p
    cases p with
    | value _ => rfl
    | acc => rfl
    | mem ea => cases ea <;> rfl
  cases s.operand o <;> simp [State.finish, eq_comm, hf]

theorem modifyOp_fault {i : Instr} {o : Operand} {result : Byte → Byte} {flags : Byte → Flags → Flags}
    {s : State} {f : Fault} : modifyOp i o result flags s = .fault f ↔ s.operand o = .error f := by
  unfold modifyOp
  cases s.operand o <;> simp [State.finish]

theorem modifyOp_ne_refused {i : Instr} {o : Operand} {result : Byte → Byte}
    {flags : Byte → Flags → Flags} {s : State} {r : Refusal} :
    modifyOp i o result flags s ≠ .refused r := by
  unfold modifyOp
  cases s.operand o <;> simp [State.finish]

/-- An implied instruction always completes. -/
theorem impliedOp_next {i : Instr} {apply : State → State} {s t : State} :
    impliedOp i apply s = .next t ↔ t = (apply (s.fetched i)).charge (i.cost false) := by
  simp [impliedOp, State.finish, eq_comm]

/-- A branch always completes. -/
theorem branch_next {i : Instr} {off : Byte} {taken : Bool} {s t : State} :
    branch i off taken s = .next t ↔
      t = (if taken then { s.fetched i with pc := branchTarget (s.fetched i).pc off }
            else s.fetched i).charge
          (i.cost false + branchExtra taken (s.fetched i).pc (branchTarget (s.fetched i).pc off)) := by
  simp [branch, State.finish, eq_comm]

/-- JMP indirect completes exactly when its pointer is readable. -/
theorem opJmpInd_next {i : Instr} {ptr : Word} {s t : State} :
    opJmpInd i ptr s = .next t ↔
      ∃ target, s.readWord ptr = .ok target ∧
        t = ({ s.fetched i with pc := target }).charge (i.cost false) := by
  unfold opJmpInd
  cases s.readWord ptr <;> simp [State.finish, eq_comm]

/-- The decimal check lets the instruction through, or refuses it with D = 1 under `refuse`. -/
theorem decimalCheck_cases (i : Instr) (s : State) (perform : Outcome) :
    (s.flags.d = true ∧ s.params.decimal = .refuse ∧
        decimalCheck i s perform = .refused (.decimal i.opcode s.pc)) ∨
      (¬(s.flags.d = true ∧ s.params.decimal = .refuse) ∧ decimalCheck i s perform = perform) := by
  unfold decimalCheck
  by_cases h : s.flags.d = true ∧ s.params.decimal = .refuse
  · exact .inl ⟨h.1, h.2, by simp [h.1, h.2]⟩
  · refine .inr ⟨h, ?_⟩
    have : ¬(s.flags.d && s.params.decimal == .refuse) = true := by simpa using h
    rw [if_neg this]

end Sys2Proof.Machine
end

