-- ==== Sys2Proof/Laws/Dispatch.lean ====
section
/-! SUPPORT. `exec` by mnemonic: the 151 arms are 56 operations, each applied to the operand form the instruction carries, so that a
claim over all instructions is a case split over the operations. -/

namespace Sys2Proof.Machine

/-- The operand form of an instruction that has one; `.acc` for the others, where nothing reads it. -/
def operandOf : Instr → Operand
  | .adcImm b | .sbcImm b | .cmpImm b | .cpxImm b | .cpyImm b | .ldaImm b | .ldxImm b
  | .ldyImm b | .andImm b | .oraImm b | .eorImm b => .imm b
  | .adcZp b | .sbcZp b | .cmpZp b | .cpxZp b | .cpyZp b | .incZp b | .decZp b
  | .ldaZp b | .ldxZp b | .ldyZp b | .staZp b | .stxZp b | .styZp b | .andZp b
  | .oraZp b | .eorZp b | .bitZp b | .aslZp b | .lsrZp b | .rolZp b | .rorZp b => .zp b
  | .adcZpX b | .sbcZpX b | .cmpZpX b | .incZpX b | .decZpX b | .ldaZpX b | .ldyZpX b
  | .staZpX b | .styZpX b | .andZpX b | .oraZpX b | .eorZpX b | .aslZpX b | .lsrZpX b
  | .rolZpX b | .rorZpX b => .zpx b
  | .ldxZpY b | .stxZpY b => .zpy b
  | .adcAbs w | .sbcAbs w | .cmpAbs w | .cpxAbs w | .cpyAbs w | .incAbs w | .decAbs w
  | .ldaAbs w | .ldxAbs w | .ldyAbs w | .staAbs w | .stxAbs w | .styAbs w | .andAbs w
  | .oraAbs w | .eorAbs w | .bitAbs w | .aslAbs w | .lsrAbs w | .rolAbs w | .rorAbs w => .abs w
  | .adcAbsX w | .sbcAbsX w | .cmpAbsX w | .incAbsX w | .decAbsX w | .ldaAbsX w | .ldyAbsX w
  | .staAbsX w | .andAbsX w | .oraAbsX w | .eorAbsX w | .aslAbsX w | .lsrAbsX w | .rolAbsX w
  | .rorAbsX w => .absx w
  | .adcAbsY w | .sbcAbsY w | .cmpAbsY w | .ldaAbsY w | .ldxAbsY w | .staAbsY w | .andAbsY w
  | .oraAbsY w | .eorAbsY w => .absy w
  | .adcIndX b | .sbcIndX b | .cmpIndX b | .ldaIndX b | .staIndX b | .andIndX b | .oraIndX b
  | .eorIndX b => .indx b
  | .adcIndY b | .sbcIndY b | .cmpIndY b | .ldaIndY b | .staIndY b | .andIndY b | .oraIndY b
  | .eorIndY b => .indy b
  | .inx | .iny | .dex | .dey | .aslAcc | .lsrAcc | .rolAcc | .rorAcc
  | .jmpAbs _ | .jmpInd _ | .jsr _ | .rts | .bcc _ | .bcs _ | .beq _ | .bmi _
  | .bne _ | .bpl _ | .bvc _ | .bvs _ | .pha | .php | .pla | .plp
  | .tax | .tay | .txa | .tya | .tsx | .txs | .clc | .sec
  | .cli | .sei | .cld | .sed | .clv | .nop | .brk | .rti => .acc

/-- The displacement of a branch; 0 for the others, where nothing reads it. -/
def displacementOf : Instr → Byte
  | .bcc off | .bcs off | .beq off | .bmi off | .bne off | .bpl off | .bvc off | .bvs off => off
  | _ => 0

/-- The operand word of a jump; 0 for the others, where nothing reads it. -/
def targetOf : Instr → Word
  | .jmpAbs w | .jmpInd w | .jsr w => w
  | _ => 0

/-- JMP in either of its modes. -/
def opJmp (i : Instr) (s : State) : Outcome :=
  match i.entry.mode with
  | .ind => opJmpInd i (targetOf i) s
  | _    => opJmpAbs i (targetOf i) s

/-- The operation of each mnemonic, on the instruction. -/
def performBy (i : Instr) (s : State) : Outcome :=
  match i.mnemonic with
  | .adc => opAdc i (operandOf i) s
  | .sbc => opSbc i (operandOf i) s
  | .cmp => opCmp i (operandOf i) s
  | .cpx => opCpx i (operandOf i) s
  | .cpy => opCpy i (operandOf i) s
  | .inc => opInc i (operandOf i) s
  | .dec => opDec i (operandOf i) s
  | .inx => opInx i s
  | .iny => opIny i s
  | .dex => opDex i s
  | .dey => opDey i s
  | .lda => opLda i (operandOf i) s
  | .ldx => opLdx i (operandOf i) s
  | .ldy => opLdy i (operandOf i) s
  | .sta => opSta i (operandOf i) s
  | .stx => opStx i (operandOf i) s
  | .sty => opSty i (operandOf i) s
  | .and => opAnd i (operandOf i) s
  | .ora => opOra i (operandOf i) s
  | .eor => opEor i (operandOf i) s
  | .bit => opBit i (operandOf i) s
  | .asl => opAsl i (operandOf i) s
  | .lsr => opLsr i (operandOf i) s
  | .rol => opRol i (operandOf i) s
  | .ror => opRor i (operandOf i) s
  | .jmp => opJmp i s
  | .jsr => opJsr i (targetOf i) s
  | .rts => opRts i s
  | .bcc => branch i (displacementOf i) (!s.flags.c) s
  | .bcs => branch i (displacementOf i) s.flags.c s
  | .beq => branch i (displacementOf i) s.flags.z s
  | .bmi => branch i (displacementOf i) s.flags.n s
  | .bne => branch i (displacementOf i) (!s.flags.z) s
  | .bpl => branch i (displacementOf i) (!s.flags.n) s
  | .bvc => branch i (displacementOf i) (!s.flags.v) s
  | .bvs => branch i (displacementOf i) s.flags.v s
  | .pha => execPha s
  | .php => execPhp s
  | .pla => execPla s
  | .plp => execPlp s
  | .tax => execTax s
  | .tay => execTay s
  | .txa => execTxa s
  | .tya => execTya s
  | .tsx => execTsx s
  | .txs => execTxs s
  | .clc => execClc s
  | .sec => execSec s
  | .cli => execCli s
  | .sei => execSei s
  | .cld => execCld s
  | .sed => execSed s
  | .clv => execClv s
  | .nop => execNop s
  | .brk => execBrk s
  | .rti => execRti s

/-- Every arm of `exec` is its mnemonic's operation. -/
theorem exec_eq_performBy (i : Instr) (s : State) : exec i s = performBy i s := by
  cases i <;> rfl

end Sys2Proof.Machine
end

