-- ==== Sys2Proof/Laws/PerInstr.lean ====
section
/-! SUPPORT. The per-instruction law family `EncodedSize`: an instruction's encoding has as many bytes as its addressing mode says (30_encoding.md R61, R70), in either byte order. -/

namespace Sys2Proof.Laws.EncodedSize

/-- The encoding of `i` has `i.length` bytes. -/
def Statement (i : Instr) : Prop := ∀ order, (encode order i).length = i.length

theorem of_word (i : Instr) (w : Word) (hf : i.operandField = .word w) (hl : i.length = 3) :
    Statement i := by
  intro order
  cases order <;> simp [encode, hf, OperandField.bytes, splitWord, hl]

theorem adcImm (b : Byte) : Statement (.adcImm b) := fun _ => rfl
theorem adcZp (b : Byte) : Statement (.adcZp b) := fun _ => rfl
theorem adcZpX (b : Byte) : Statement (.adcZpX b) := fun _ => rfl
theorem adcAbs (w : Word) : Statement (.adcAbs w) := of_word _ w rfl rfl
theorem adcAbsX (w : Word) : Statement (.adcAbsX w) := of_word _ w rfl rfl
theorem adcAbsY (w : Word) : Statement (.adcAbsY w) := of_word _ w rfl rfl
theorem adcIndX (b : Byte) : Statement (.adcIndX b) := fun _ => rfl
theorem adcIndY (b : Byte) : Statement (.adcIndY b) := fun _ => rfl
theorem sbcImm (b : Byte) : Statement (.sbcImm b) := fun _ => rfl
theorem sbcZp (b : Byte) : Statement (.sbcZp b) := fun _ => rfl
theorem sbcZpX (b : Byte) : Statement (.sbcZpX b) := fun _ => rfl
theorem sbcAbs (w : Word) : Statement (.sbcAbs w) := of_word _ w rfl rfl
theorem sbcAbsX (w : Word) : Statement (.sbcAbsX w) := of_word _ w rfl rfl
theorem sbcAbsY (w : Word) : Statement (.sbcAbsY w) := of_word _ w rfl rfl
theorem sbcIndX (b : Byte) : Statement (.sbcIndX b) := fun _ => rfl
theorem sbcIndY (b : Byte) : Statement (.sbcIndY b) := fun _ => rfl
theorem cmpImm (b : Byte) : Statement (.cmpImm b) := fun _ => rfl
theorem cmpZp (b : Byte) : Statement (.cmpZp b) := fun _ => rfl
theorem cmpZpX (b : Byte) : Statement (.cmpZpX b) := fun _ => rfl
theorem cmpAbs (w : Word) : Statement (.cmpAbs w) := of_word _ w rfl rfl
theorem cmpAbsX (w : Word) : Statement (.cmpAbsX w) := of_word _ w rfl rfl
theorem cmpAbsY (w : Word) : Statement (.cmpAbsY w) := of_word _ w rfl rfl
theorem cmpIndX (b : Byte) : Statement (.cmpIndX b) := fun _ => rfl
theorem cmpIndY (b : Byte) : Statement (.cmpIndY b) := fun _ => rfl
theorem cpxImm (b : Byte) : Statement (.cpxImm b) := fun _ => rfl
theorem cpxZp (b : Byte) : Statement (.cpxZp b) := fun _ => rfl
theorem cpxAbs (w : Word) : Statement (.cpxAbs w) := of_word _ w rfl rfl
theorem cpyImm (b : Byte) : Statement (.cpyImm b) := fun _ => rfl
theorem cpyZp (b : Byte) : Statement (.cpyZp b) := fun _ => rfl
theorem cpyAbs (w : Word) : Statement (.cpyAbs w) := of_word _ w rfl rfl
theorem incZp (b : Byte) : Statement (.incZp b) := fun _ => rfl
theorem incZpX (b : Byte) : Statement (.incZpX b) := fun _ => rfl
theorem incAbs (w : Word) : Statement (.incAbs w) := of_word _ w rfl rfl
theorem incAbsX (w : Word) : Statement (.incAbsX w) := of_word _ w rfl rfl
theorem decZp (b : Byte) : Statement (.decZp b) := fun _ => rfl
theorem decZpX (b : Byte) : Statement (.decZpX b) := fun _ => rfl
theorem decAbs (w : Word) : Statement (.decAbs w) := of_word _ w rfl rfl
theorem decAbsX (w : Word) : Statement (.decAbsX w) := of_word _ w rfl rfl
theorem inx : Statement .inx := fun _ => rfl
theorem iny : Statement .iny := fun _ => rfl
theorem dex : Statement .dex := fun _ => rfl
theorem dey : Statement .dey := fun _ => rfl
theorem ldaImm (b : Byte) : Statement (.ldaImm b) := fun _ => rfl
theorem ldaZp (b : Byte) : Statement (.ldaZp b) := fun _ => rfl
theorem ldaZpX (b : Byte) : Statement (.ldaZpX b) := fun _ => rfl
theorem ldaAbs (w : Word) : Statement (.ldaAbs w) := of_word _ w rfl rfl
theorem ldaAbsX (w : Word) : Statement (.ldaAbsX w) := of_word _ w rfl rfl
theorem ldaAbsY (w : Word) : Statement (.ldaAbsY w) := of_word _ w rfl rfl
theorem ldaIndX (b : Byte) : Statement (.ldaIndX b) := fun _ => rfl
theorem ldaIndY (b : Byte) : Statement (.ldaIndY b) := fun _ => rfl
theorem ldxImm (b : Byte) : Statement (.ldxImm b) := fun _ => rfl
theorem ldxZp (b : Byte) : Statement (.ldxZp b) := fun _ => rfl
theorem ldxZpY (b : Byte) : Statement (.ldxZpY b) := fun _ => rfl
theorem ldxAbs (w : Word) : Statement (.ldxAbs w) := of_word _ w rfl rfl
theorem ldxAbsY (w : Word) : Statement (.ldxAbsY w) := of_word _ w rfl rfl
theorem ldyImm (b : Byte) : Statement (.ldyImm b) := fun _ => rfl
theorem ldyZp (b : Byte) : Statement (.ldyZp b) := fun _ => rfl
theorem ldyZpX (b : Byte) : Statement (.ldyZpX b) := fun _ => rfl
theorem ldyAbs (w : Word) : Statement (.ldyAbs w) := of_word _ w rfl rfl
theorem ldyAbsX (w : Word) : Statement (.ldyAbsX w) := of_word _ w rfl rfl
theorem staZp (b : Byte) : Statement (.staZp b) := fun _ => rfl
theorem staZpX (b : Byte) : Statement (.staZpX b) := fun _ => rfl
theorem staAbs (w : Word) : Statement (.staAbs w) := of_word _ w rfl rfl
theorem staAbsX (w : Word) : Statement (.staAbsX w) := of_word _ w rfl rfl
theorem staAbsY (w : Word) : Statement (.staAbsY w) := of_word _ w rfl rfl
theorem staIndX (b : Byte) : Statement (.staIndX b) := fun _ => rfl
theorem staIndY (b : Byte) : Statement (.staIndY b) := fun _ => rfl
theorem stxZp (b : Byte) : Statement (.stxZp b) := fun _ => rfl
theorem stxZpY (b : Byte) : Statement (.stxZpY b) := fun _ => rfl
theorem stxAbs (w : Word) : Statement (.stxAbs w) := of_word _ w rfl rfl
theorem styZp (b : Byte) : Statement (.styZp b) := fun _ => rfl
theorem styZpX (b : Byte) : Statement (.styZpX b) := fun _ => rfl
theorem styAbs (w : Word) : Statement (.styAbs w) := of_word _ w rfl rfl
theorem andImm (b : Byte) : Statement (.andImm b) := fun _ => rfl
theorem andZp (b : Byte) : Statement (.andZp b) := fun _ => rfl
theorem andZpX (b : Byte) : Statement (.andZpX b) := fun _ => rfl
theorem andAbs (w : Word) : Statement (.andAbs w) := of_word _ w rfl rfl
theorem andAbsX (w : Word) : Statement (.andAbsX w) := of_word _ w rfl rfl
theorem andAbsY (w : Word) : Statement (.andAbsY w) := of_word _ w rfl rfl
theorem andIndX (b : Byte) : Statement (.andIndX b) := fun _ => rfl
theorem andIndY (b : Byte) : Statement (.andIndY b) := fun _ => rfl
theorem oraImm (b : Byte) : Statement (.oraImm b) := fun _ => rfl
theorem oraZp (b : Byte) : Statement (.oraZp b) := fun _ => rfl
theorem oraZpX (b : Byte) : Statement (.oraZpX b) := fun _ => rfl
theorem oraAbs (w : Word) : Statement (.oraAbs w) := of_word _ w rfl rfl
theorem oraAbsX (w : Word) : Statement (.oraAbsX w) := of_word _ w rfl rfl
theorem oraAbsY (w : Word) : Statement (.oraAbsY w) := of_word _ w rfl rfl
theorem oraIndX (b : Byte) : Statement (.oraIndX b) := fun _ => rfl
theorem oraIndY (b : Byte) : Statement (.oraIndY b) := fun _ => rfl
theorem eorImm (b : Byte) : Statement (.eorImm b) := fun _ => rfl
theorem eorZp (b : Byte) : Statement (.eorZp b) := fun _ => rfl
theorem eorZpX (b : Byte) : Statement (.eorZpX b) := fun _ => rfl
theorem eorAbs (w : Word) : Statement (.eorAbs w) := of_word _ w rfl rfl
theorem eorAbsX (w : Word) : Statement (.eorAbsX w) := of_word _ w rfl rfl
theorem eorAbsY (w : Word) : Statement (.eorAbsY w) := of_word _ w rfl rfl
theorem eorIndX (b : Byte) : Statement (.eorIndX b) := fun _ => rfl
theorem eorIndY (b : Byte) : Statement (.eorIndY b) := fun _ => rfl
theorem bitZp (b : Byte) : Statement (.bitZp b) := fun _ => rfl
theorem bitAbs (w : Word) : Statement (.bitAbs w) := of_word _ w rfl rfl
theorem aslAcc : Statement .aslAcc := fun _ => rfl
theorem aslZp (b : Byte) : Statement (.aslZp b) := fun _ => rfl
theorem aslZpX (b : Byte) : Statement (.aslZpX b) := fun _ => rfl
theorem aslAbs (w : Word) : Statement (.aslAbs w) := of_word _ w rfl rfl
theorem aslAbsX (w : Word) : Statement (.aslAbsX w) := of_word _ w rfl rfl
theorem lsrAcc : Statement .lsrAcc := fun _ => rfl
theorem lsrZp (b : Byte) : Statement (.lsrZp b) := fun _ => rfl
theorem lsrZpX (b : Byte) : Statement (.lsrZpX b) := fun _ => rfl
theorem lsrAbs (w : Word) : Statement (.lsrAbs w) := of_word _ w rfl rfl
theorem lsrAbsX (w : Word) : Statement (.lsrAbsX w) := of_word _ w rfl rfl
theorem rolAcc : Statement .rolAcc := fun _ => rfl
theorem rolZp (b : Byte) : Statement (.rolZp b) := fun _ => rfl
theorem rolZpX (b : Byte) : Statement (.rolZpX b) := fun _ => rfl
theorem rolAbs (w : Word) : Statement (.rolAbs w) := of_word _ w rfl rfl
theorem rolAbsX (w : Word) : Statement (.rolAbsX w) := of_word _ w rfl rfl
theorem rorAcc : Statement .rorAcc := fun _ => rfl
theorem rorZp (b : Byte) : Statement (.rorZp b) := fun _ => rfl
theorem rorZpX (b : Byte) : Statement (.rorZpX b) := fun _ => rfl
theorem rorAbs (w : Word) : Statement (.rorAbs w) := of_word _ w rfl rfl
theorem rorAbsX (w : Word) : Statement (.rorAbsX w) := of_word _ w rfl rfl
theorem jmpAbs (w : Word) : Statement (.jmpAbs w) := of_word _ w rfl rfl
theorem jmpInd (w : Word) : Statement (.jmpInd w) := of_word _ w rfl rfl
theorem jsr (w : Word) : Statement (.jsr w) := of_word _ w rfl rfl
theorem rts : Statement .rts := fun _ => rfl
theorem bcc (off : Byte) : Statement (.bcc off) := fun _ => rfl
theorem bcs (off : Byte) : Statement (.bcs off) := fun _ => rfl
theorem beq (off : Byte) : Statement (.beq off) := fun _ => rfl
theorem bmi (off : Byte) : Statement (.bmi off) := fun _ => rfl
theorem bne (off : Byte) : Statement (.bne off) := fun _ => rfl
theorem bpl (off : Byte) : Statement (.bpl off) := fun _ => rfl
theorem bvc (off : Byte) : Statement (.bvc off) := fun _ => rfl
theorem bvs (off : Byte) : Statement (.bvs off) := fun _ => rfl
theorem pha : Statement .pha := fun _ => rfl
theorem php : Statement .php := fun _ => rfl
theorem pla : Statement .pla := fun _ => rfl
theorem plp : Statement .plp := fun _ => rfl
theorem tax : Statement .tax := fun _ => rfl
theorem tay : Statement .tay := fun _ => rfl
theorem txa : Statement .txa := fun _ => rfl
theorem tya : Statement .tya := fun _ => rfl
theorem tsx : Statement .tsx := fun _ => rfl
theorem txs : Statement .txs := fun _ => rfl
theorem clc : Statement .clc := fun _ => rfl
theorem sec : Statement .sec := fun _ => rfl
theorem cli : Statement .cli := fun _ => rfl
theorem sei : Statement .sei := fun _ => rfl
theorem cld : Statement .cld := fun _ => rfl
theorem sed : Statement .sed := fun _ => rfl
theorem clv : Statement .clv := fun _ => rfl
theorem nop : Statement .nop := fun _ => rfl
theorem brk : Statement .brk := fun _ => rfl
theorem rti : Statement .rti := fun _ => rfl

end Sys2Proof.Laws.EncodedSize
end

