-- ==== Sys2Proof/Laws/Stack.lean ====
section
/-! SUPPORT. What the stack operations and the trap do, said once: where the bytes go, what every other byte and every field reads
after, and that stack slots are distinct and never the vector. -/

namespace Sys2Proof.Machine

/-! ## Stack addresses -/

theorem toNat_stackAddr (sp : Byte) : (stackAddr sp).toNat = 0x100 + sp.toNat := by
  have h := Nat.two_pow_add_eq_or_of_lt sp.isLt 1
  have := sp.isLt
  simp only [stackAddr, BitVec.toNat_or, BitVec.toNat_setWidth]
  rw [Nat.mod_eq_of_lt (by omega)]
  exact h.symm

theorem stackAddr_inj {p q : Byte} : stackAddr p = stackAddr q ↔ p = q := by
  constructor
  · intro h
    have := congrArg BitVec.toNat h
    rw [toNat_stackAddr, toNat_stackAddr] at this
    exact BitVec.eq_of_toNat_eq (by omega)
  · rintro rfl; rfl

/-- No stack slot is a byte of the vector. -/
theorem stackAddr_ne_of_page {sp : Byte} {a : Word} (h : 0x200 ≤ a.toNat) : stackAddr sp ≠ a := by
  rintro rfl
  have := sp.isLt
  rw [toNat_stackAddr] at h
  omega

/-! ## Pushes -/

namespace State

theorem read_push {s : State} (hs : s.mem.wf = true) (v : Byte) (a : Word) :
    (s.push v).read a = if stackAddr s.sp = a then v else s.read a := read_write hs _ _ _

theorem read_pushWord {s : State} (hs : s.mem.wf = true) (w : Word) (a : Word) :
    (s.pushWord w).read a =
      if stackAddr (s.sp - 1) = a then loByte w
      else if stackAddr s.sp = a then hiByte w else s.read a := by
  show ((s.push (hiByte w)).push (loByte w)).read a = _
  rw [read_push (wf_push _ hs), push_sp, read_push hs]

/-! ## The trap -/

section
variable (s : State) (ret : Word)

/-- Every field the trap changes, in one update. -/
theorem takeTrap_eq : s.takeTrap ret =
    { s with sp := s.sp - 1 - 1 - 1, mem := ((s.pushWord ret).push s.flags.packForPush).mem,
             flags := { s.flags with i := true }, pc := (s.takeTrap ret).pc } := rfl

/-- Every field the return from the trap changes, in one update. -/
theorem returnFromTrap_eq : s.returnFromTrap =
    { s with sp := s.sp + 1 + 1 + 1, flags := s.flags.unpack (s.read (stackAddr (s.sp + 1))),
             pc := (s.read (stackAddr (s.sp + 1 + 1 + 1)) ++ s.read (stackAddr (s.sp + 1 + 1)) :
               BitVec (8 + 8)) } := rfl

@[simp] theorem takeTrap_a : (s.takeTrap ret).a = s.a := by rw [takeTrap_eq]
@[simp] theorem takeTrap_x : (s.takeTrap ret).x = s.x := by rw [takeTrap_eq]
@[simp] theorem takeTrap_y : (s.takeTrap ret).y = s.y := by rw [takeTrap_eq]
@[simp] theorem takeTrap_sp : (s.takeTrap ret).sp = s.sp - 1 - 1 - 1 := by rw [takeTrap_eq]
@[simp] theorem takeTrap_flags : (s.takeTrap ret).flags = { s.flags with i := true } := by rw [takeTrap_eq]
@[simp] theorem takeTrap_mem :
    (s.takeTrap ret).mem = ((s.pushWord ret).push s.flags.packForPush).mem := by
  rw [takeTrap_eq]
@[simp] theorem takeTrap_wordOrder : (s.takeTrap ret).wordOrder = s.wordOrder := by rw [takeTrap_eq]
@[simp] theorem takeTrap_orderSetup : (s.takeTrap ret).orderSetup = s.orderSetup := by rw [takeTrap_eq]
@[simp] theorem takeTrap_resetDone : (s.takeTrap ret).resetDone = s.resetDone := by rw [takeTrap_eq]
@[simp] theorem takeTrap_illegalCount : (s.takeTrap ret).illegalCount = s.illegalCount := by rw [takeTrap_eq]
@[simp] theorem takeTrap_fatal : (s.takeTrap ret).fatal = s.fatal := by rw [takeTrap_eq]
@[simp] theorem takeTrap_refused : (s.takeTrap ret).refused = s.refused := by rw [takeTrap_eq]
@[simp] theorem takeTrap_budget : (s.takeTrap ret).budget = s.budget := by rw [takeTrap_eq]
@[simp] theorem takeTrap_events : (s.takeTrap ret).events = s.events := by rw [takeTrap_eq]
@[simp] theorem takeTrap_params : (s.takeTrap ret).params = s.params := by rw [takeTrap_eq]

@[simp] theorem returnFromTrap_a : s.returnFromTrap.a = s.a := by rw [returnFromTrap_eq]
@[simp] theorem returnFromTrap_x : s.returnFromTrap.x = s.x := by rw [returnFromTrap_eq]
@[simp] theorem returnFromTrap_y : s.returnFromTrap.y = s.y := by rw [returnFromTrap_eq]
@[simp] theorem returnFromTrap_sp : s.returnFromTrap.sp = s.sp + 1 + 1 + 1 := by rw [returnFromTrap_eq]
@[simp] theorem returnFromTrap_flags :
    s.returnFromTrap.flags = s.flags.unpack (s.read (stackAddr (s.sp + 1))) := by rw [returnFromTrap_eq]
@[simp] theorem returnFromTrap_pc : s.returnFromTrap.pc =
    (s.read (stackAddr (s.sp + 1 + 1 + 1)) ++ s.read (stackAddr (s.sp + 1 + 1)) : BitVec (8 + 8)) := by rw [returnFromTrap_eq]
@[simp] theorem returnFromTrap_mem : s.returnFromTrap.mem = s.mem := by rw [returnFromTrap_eq]
@[simp] theorem returnFromTrap_wordOrder : s.returnFromTrap.wordOrder = s.wordOrder := by rw [returnFromTrap_eq]
@[simp] theorem returnFromTrap_orderSetup : s.returnFromTrap.orderSetup = s.orderSetup := by rw [returnFromTrap_eq]
@[simp] theorem returnFromTrap_resetDone : s.returnFromTrap.resetDone = s.resetDone := by rw [returnFromTrap_eq]
@[simp] theorem returnFromTrap_illegalCount : s.returnFromTrap.illegalCount = s.illegalCount := by rw [returnFromTrap_eq]
@[simp] theorem returnFromTrap_fatal : s.returnFromTrap.fatal = s.fatal := by rw [returnFromTrap_eq]
@[simp] theorem returnFromTrap_refused : s.returnFromTrap.refused = s.refused := by rw [returnFromTrap_eq]
@[simp] theorem returnFromTrap_budget : s.returnFromTrap.budget = s.budget := by rw [returnFromTrap_eq]
@[simp] theorem returnFromTrap_events : s.returnFromTrap.events = s.events := by rw [returnFromTrap_eq]
@[simp] theorem returnFromTrap_params : s.returnFromTrap.params = s.params := by rw [returnFromTrap_eq]

end

theorem read_takeTrap {s : State} (hs : s.mem.wf = true) (ret : Word) (a : Word) :
    (s.takeTrap ret).read a =
      if stackAddr (s.sp - 1 - 1) = a then s.flags.packForPush
      else if stackAddr (s.sp - 1) = a then loByte ret
      else if stackAddr s.sp = a then hiByte ret else s.read a := by
  unfold State.read
  rw [takeTrap_mem]
  show ((s.pushWord ret).push s.flags.packForPush).read a = _
  rw [read_push (wf_pushWord _ hs), pushWord_sp, read_pushWord hs]
  rfl

/-- The trap's `pc`: the word at the vector, which no push can have changed. -/
theorem takeTrap_pc {s : State} (hs : s.mem.wf = true) (ret : Word) :
    (s.takeTrap ret).pc = s.wordAt brkVector (brkVector + 1) := by
  have hr : ∀ a : Word, 0x200 ≤ a.toNat → ((s.pushWord ret).push s.flags.packForPush).read a = s.read a := by
    intro a ha
    have := read_takeTrap hs ret a
    rw [if_neg (stackAddr_ne_of_page ha), if_neg (stackAddr_ne_of_page ha),
      if_neg (stackAddr_ne_of_page ha)] at this
    exact this
  show joinBytes s.wordOrder (((s.pushWord ret).push s.flags.packForPush).read brkVector)
    (((s.pushWord ret).push s.flags.packForPush).read (brkVector + 1)) = _
  rw [hr _ (by decide), hr _ (by decide)]
  rfl

end State

end Sys2Proof.Machine
end

