-- ==== Sys2Proof/Laws/Step.lean ====
section
/-! SUPPORT. What a step can do, said once, and the lemmas of the words around it. -/

namespace Sys2Proof.Machine

/-- No step is stopped exactly when no latch is set and a reset has been made. -/
theorem stopped_eq_none {s : State} :
    s.stopped = none ↔ s.fatal = none ∧ s.refused = none ∧ s.resetDone = true := by
  unfold State.stopped
  cases s.fatal <;> cases s.refused <;> cases s.resetDone <;> simp

/-- A stop is never a next state. -/
theorem stopped_ne_next {s t : State} : s.stopped ≠ some (.next t) := by
  unfold State.stopped
  cases s.fatal <;> cases s.refused <;> cases s.resetDone <;> simp

/-- A step that answers a next state runs an unrecognized opcode, not the 10th, or the instruction at
`pc`. -/
theorem step_next {s t : State} (h : step s = .next t) :
    s.stopped = none ∧
      (((∃ e, s.decodeAt = .error e) ∧ s.illegalCount + 1 ≠ illegalThreshold ∧ t = s.countUnrecognized) ∨
        ∃ i, s.decodeAt = .ok i ∧ s.fallsShort i = false ∧ exec i s = .next t) := by
  unfold step at h
  split at h
  · next stop hs => exact absurd (hs.trans (by rw [h])) stopped_ne_next
  · next hs =>
    refine ⟨hs, ?_⟩
    split at h
    · next e he =>
      simp only [unrecognizedStep] at h
      split at h
      · simp at h
      · next hc => exact .inl ⟨⟨e, he⟩, hc, (Host.Outcome.next.inj h).symm⟩
    · next i hi =>
      split at h
      · simp [shortfallStep] at h
      · next hf => exact .inr ⟨i, hi, by simpa using hf, h⟩

/-- The three bytes fetching gives are those at `pc` and its two successors. -/
theorem fetchBytes_three (s : State) :
    s.fetchBytes 3 = [s.read s.pc, s.read (s.pc + 1), s.read (s.pc + 1 + 1)] := rfl

/-! ## The host and the execute call -/

/-- The host has a move exactly between execute calls of a block no fatal has ended. -/
theorem hostMayAct_iff {s : State} : s.hostMayAct = true ↔ s.budget = none ∧ s.fatal = none := by
  simp [State.hostMayAct]

/-- Where nothing stops a step, an execute call is the loop from its budget. -/
theorem execute_of_ready {s : State} (h : s.stopped = none) (n : Nat) :
    s.execute n = State.executeLoop n { s with budget := some (n : Int), orderSetup := .locked } := by
  obtain ⟨hf, hr, hd⟩ := stopped_eq_none.1 h
  unfold State.execute
  rw [hf, hr]
  simp only [hd, if_true]

@[simp] theorem afterFatal_fatal (s : State) (f : Fault) : (s.afterFatal f).fatal = some f := rfl

@[simp] theorem afterFatal_orderSetup (s : State) (f : Fault) :
    (s.afterFatal f).orderSetup = s.orderSetup := by
  cases f
  case readRange => simp only [State.afterFatal]; cases s.decodeAt <;> rfl
  all_goals rfl

@[simp] theorem afterRefusal_refused (s : State) (r : Refusal) : (s.afterRefusal r).refused = some r := rfl

@[simp] theorem afterRefusal_orderSetup (s : State) (r : Refusal) :
    (s.afterRefusal r).orderSetup = s.orderSetup := by cases r <;> rfl

end Sys2Proof.Machine
end

