-- ==== Sys2Proof/Tests/Slice0.lean ====
section
/-! SUPPORT. The model's own tests: the words of every constructor written out from the spec's encoding tables, the spec's vectors
(95_test_vectors.md), one step each, and a witness for the hypotheses of every obligation. -/

namespace Sys2Proof.Tests

open Sys2Proof.Machine

/-! ## Well-formedness: the one check refuses an instruction the opcode set lacks -/

theorem test_wellFormed_refuses : Instr.wellFormed .minimum19 .inx = false := by decide
theorem test_wellFormed_refuses_sbc : Instr.wellFormed .minimum19 (.sbcImm 0x10) = false := by decide
theorem test_wellFormed_accepts : Instr.wellFormed .minimum19 (.ldaIndY 0x10) = true := by decide
theorem test_wellFormed_documented : Instr.wellFormed .documented151 .inx = true := by decide

/-! ## Decoding: every constructor, its bytes from the tables of 43 to 48, operand 0x9A or 0x1234 -/

/-- The bytes decode to the instruction, nothing is left over, and the instruction encodes to them. -/
def decodesTo (p : List Byte × Instr) : Bool :=
  (match decode .documented151 .little p.1 with
    | .ok (i, rest) => i == p.2 && rest == []
    | .error _      => false) &&
  encode .little p.2 == p.1

theorem test_decode_arithmetic_1 : [
  ([0x69, 0x9A], .adcImm 0x9A), ([0x65, 0x9A], .adcZp 0x9A), ([0x75, 0x9A], .adcZpX 0x9A),
  ([0x6D, 0x34, 0x12], .adcAbs 0x1234), ([0x7D, 0x34, 0x12], .adcAbsX 0x1234),
  ([0x79, 0x34, 0x12], .adcAbsY 0x1234), ([0x61, 0x9A], .adcIndX 0x9A), ([0x71, 0x9A], .adcIndY 0x9A),
  ([0xE9, 0x9A], .sbcImm 0x9A), ([0xE5, 0x9A], .sbcZp 0x9A), ([0xF5, 0x9A], .sbcZpX 0x9A),
  ([0xED, 0x34, 0x12], .sbcAbs 0x1234), ([0xFD, 0x34, 0x12], .sbcAbsX 0x1234),
  ([0xF9, 0x34, 0x12], .sbcAbsY 0x1234), ([0xE1, 0x9A], .sbcIndX 0x9A), ([0xF1, 0x9A], .sbcIndY 0x9A),
  ([0xC9, 0x9A], .cmpImm 0x9A), ([0xC5, 0x9A], .cmpZp 0x9A), ([0xD5, 0x9A], .cmpZpX 0x9A),
  ([0xCD, 0x34, 0x12], .cmpAbs 0x1234), ([0xDD, 0x34, 0x12], .cmpAbsX 0x1234),
  ([0xD9, 0x34, 0x12], .cmpAbsY 0x1234), ([0xC1, 0x9A], .cmpIndX 0x9A), ([0xD1, 0x9A], .cmpIndY 0x9A)].all decodesTo = true := by
  decide

theorem test_decode_arithmetic_2 : [
  ([0xE0, 0x9A], .cpxImm 0x9A), ([0xE4, 0x9A], .cpxZp 0x9A), ([0xEC, 0x34, 0x12], .cpxAbs 0x1234),
  ([0xC0, 0x9A], .cpyImm 0x9A), ([0xC4, 0x9A], .cpyZp 0x9A), ([0xCC, 0x34, 0x12], .cpyAbs 0x1234),
  ([0xE6, 0x9A], .incZp 0x9A), ([0xF6, 0x9A], .incZpX 0x9A), ([0xEE, 0x34, 0x12], .incAbs 0x1234),
  ([0xFE, 0x34, 0x12], .incAbsX 0x1234), ([0xC6, 0x9A], .decZp 0x9A), ([0xD6, 0x9A], .decZpX 0x9A),
  ([0xCE, 0x34, 0x12], .decAbs 0x1234), ([0xDE, 0x34, 0x12], .decAbsX 0x1234), ([0xE8], .inx),
  ([0xC8], .iny), ([0xCA], .dex), ([0x88], .dey)].all decodesTo = true := by
  decide

theorem test_decode_load_store_1 : [
  ([0xA9, 0x9A], .ldaImm 0x9A), ([0xA5, 0x9A], .ldaZp 0x9A), ([0xB5, 0x9A], .ldaZpX 0x9A),
  ([0xAD, 0x34, 0x12], .ldaAbs 0x1234), ([0xBD, 0x34, 0x12], .ldaAbsX 0x1234),
  ([0xB9, 0x34, 0x12], .ldaAbsY 0x1234), ([0xA1, 0x9A], .ldaIndX 0x9A), ([0xB1, 0x9A], .ldaIndY 0x9A),
  ([0xA2, 0x9A], .ldxImm 0x9A), ([0xA6, 0x9A], .ldxZp 0x9A), ([0xB6, 0x9A], .ldxZpY 0x9A),
  ([0xAE, 0x34, 0x12], .ldxAbs 0x1234), ([0xBE, 0x34, 0x12], .ldxAbsY 0x1234),
  ([0xA0, 0x9A], .ldyImm 0x9A), ([0xA4, 0x9A], .ldyZp 0x9A), ([0xB4, 0x9A], .ldyZpX 0x9A),
  ([0xAC, 0x34, 0x12], .ldyAbs 0x1234), ([0xBC, 0x34, 0x12], .ldyAbsX 0x1234), ([0x85, 0x9A], .staZp 0x9A),
  ([0x95, 0x9A], .staZpX 0x9A), ([0x8D, 0x34, 0x12], .staAbs 0x1234),
  ([0x9D, 0x34, 0x12], .staAbsX 0x1234), ([0x99, 0x34, 0x12], .staAbsY 0x1234),
  ([0x81, 0x9A], .staIndX 0x9A)].all decodesTo = true := by
  decide

theorem test_decode_load_store_2 : [
  ([0x91, 0x9A], .staIndY 0x9A), ([0x86, 0x9A], .stxZp 0x9A), ([0x96, 0x9A], .stxZpY 0x9A),
  ([0x8E, 0x34, 0x12], .stxAbs 0x1234), ([0x84, 0x9A], .styZp 0x9A), ([0x94, 0x9A], .styZpX 0x9A),
  ([0x8C, 0x34, 0x12], .styAbs 0x1234)].all decodesTo = true := by
  decide

theorem test_decode_logic_shift_1 : [
  ([0x29, 0x9A], .andImm 0x9A), ([0x25, 0x9A], .andZp 0x9A), ([0x35, 0x9A], .andZpX 0x9A),
  ([0x2D, 0x34, 0x12], .andAbs 0x1234), ([0x3D, 0x34, 0x12], .andAbsX 0x1234),
  ([0x39, 0x34, 0x12], .andAbsY 0x1234), ([0x21, 0x9A], .andIndX 0x9A), ([0x31, 0x9A], .andIndY 0x9A),
  ([0x09, 0x9A], .oraImm 0x9A), ([0x05, 0x9A], .oraZp 0x9A), ([0x15, 0x9A], .oraZpX 0x9A),
  ([0x0D, 0x34, 0x12], .oraAbs 0x1234), ([0x1D, 0x34, 0x12], .oraAbsX 0x1234),
  ([0x19, 0x34, 0x12], .oraAbsY 0x1234), ([0x01, 0x9A], .oraIndX 0x9A), ([0x11, 0x9A], .oraIndY 0x9A),
  ([0x49, 0x9A], .eorImm 0x9A), ([0x45, 0x9A], .eorZp 0x9A), ([0x55, 0x9A], .eorZpX 0x9A),
  ([0x4D, 0x34, 0x12], .eorAbs 0x1234), ([0x5D, 0x34, 0x12], .eorAbsX 0x1234),
  ([0x59, 0x34, 0x12], .eorAbsY 0x1234), ([0x41, 0x9A], .eorIndX 0x9A), ([0x51, 0x9A], .eorIndY 0x9A)].all decodesTo = true := by
  decide

theorem test_decode_logic_shift_2 : [
  ([0x24, 0x9A], .bitZp 0x9A), ([0x2C, 0x34, 0x12], .bitAbs 0x1234), ([0x0A], .aslAcc),
  ([0x06, 0x9A], .aslZp 0x9A), ([0x16, 0x9A], .aslZpX 0x9A), ([0x0E, 0x34, 0x12], .aslAbs 0x1234),
  ([0x1E, 0x34, 0x12], .aslAbsX 0x1234), ([0x4A], .lsrAcc), ([0x46, 0x9A], .lsrZp 0x9A),
  ([0x56, 0x9A], .lsrZpX 0x9A), ([0x4E, 0x34, 0x12], .lsrAbs 0x1234),
  ([0x5E, 0x34, 0x12], .lsrAbsX 0x1234), ([0x2A], .rolAcc), ([0x26, 0x9A], .rolZp 0x9A),
  ([0x36, 0x9A], .rolZpX 0x9A), ([0x2E, 0x34, 0x12], .rolAbs 0x1234),
  ([0x3E, 0x34, 0x12], .rolAbsX 0x1234), ([0x6A], .rorAcc), ([0x66, 0x9A], .rorZp 0x9A),
  ([0x76, 0x9A], .rorZpX 0x9A), ([0x6E, 0x34, 0x12], .rorAbs 0x1234), ([0x7E, 0x34, 0x12], .rorAbsX 0x1234)].all decodesTo = true := by
  decide

theorem test_decode_control : [
  ([0x4C, 0x34, 0x12], .jmpAbs 0x1234), ([0x6C, 0x34, 0x12], .jmpInd 0x1234),
  ([0x20, 0x34, 0x12], .jsr 0x1234), ([0x60], .rts), ([0x90, 0x9A], .bcc 0x9A), ([0xB0, 0x9A], .bcs 0x9A),
  ([0xF0, 0x9A], .beq 0x9A), ([0x30, 0x9A], .bmi 0x9A), ([0xD0, 0x9A], .bne 0x9A),
  ([0x10, 0x9A], .bpl 0x9A), ([0x50, 0x9A], .bvc 0x9A), ([0x70, 0x9A], .bvs 0x9A)].all decodesTo = true := by
  decide

theorem test_decode_stack_transfer_flag : [
  ([0x48], .pha), ([0x08], .php), ([0x68], .pla), ([0x28], .plp), ([0xAA], .tax), ([0xA8], .tay),
  ([0x8A], .txa), ([0x98], .tya), ([0xBA], .tsx), ([0x9A], .txs), ([0x18], .clc), ([0x38], .sec),
  ([0x58], .cli), ([0x78], .sei), ([0xD8], .cld), ([0xF8], .sed), ([0xB8], .clv), ([0xEA], .nop)].all decodesTo = true := by
  decide

theorem test_decode_system : [
  ([0x00], .brk), ([0x40], .rti)].all decodesTo = true := by
  decide

/-- R62: the operand word follows the byte order. -/
theorem test_decode_big : decode .documented151 .big [0x4C, 0xEF, 0xFC] = .ok (.jmpAbs 0xEFFC, []) := by
  decide

/-- A list that ends inside an instruction. -/
theorem test_decode_truncated : decode .documented151 .little [0xAD, 0x34] = .error .truncated := by decide

/-- The table numbers a later byte's bits on from the first byte's. -/
theorem test_decodeTableWord : decodeTableWord 24 0xEFFC4C = some (.jmpAbs 0xEFFC) := by decide
theorem test_decodeTableWord_short : decodeTableWord 8 0xB5 = some (.ldaZpX 0x00) := by decide
theorem test_decodeTableWord_none : decodeTableWord 8 0x02 = none := by decide

/-! ## The vectors of L2 -/

/-- One row of L2.1 to L2.6: where the instruction stands, its bytes, the state before (beside the reset
state), the cycles, what changed, and the final `pc`. -/
structure Vec where
  address : Word
  bytes   : List Byte
  before  : State → State
  cycles  : Nat
  after   : State → State
  pc      : Word

/-- The state the row starts from, inside `execute(1)`. -/
def Vec.start (v : Vec) : State :=
  { v.before (State.reset.writeBytes v.address v.bytes) with pc := v.address, budget := some 1 }

/-- The step changes what the row lists and nothing else. -/
def Vec.holds (v : Vec) : Bool :=
  nextOf (step v.start) ==
    some { v.after v.start with pc := v.pc, budget := some (1 - (v.cycles : Int)) }

/-- V1, V2, V3, V4, V5, V6, V7, V8, V9, V10, V11, V12 (95_test_vectors.md; R135). -/
theorem test_adc : [
  ⟨0x0200, [0x69, 0x10], fun s => { s with a := 0x50 }, 2, fun s => { s with a := 0x60 }, 0x0202⟩,
  ⟨0x0200, [0x69, 0x50], fun s => { s with a := 0x50 }, 2,
      fun s => { s with a := 0xA0, flags := { s.flags with n := true, v := true } }, 0x0202⟩,
  ⟨0x0200, [0x69, 0x01], fun s => { s with a := 0xFF }, 2,
      fun s => { s with a := 0x00, flags := { s.flags with z := true, c := true } }, 0x0202⟩,
  ⟨0x0200, [0x69, 0x00], fun s => { s with a := 0x7F, flags := { s.flags with c := true } }, 2,
      fun s => { s with a := 0x80, flags := { s.flags with n := true, v := true, c := false } }, 0x0202⟩,
  ⟨0x0200, [0x69, 0x80], fun s => { s with a := 0x80 }, 2,
      fun s => { s with a := 0x00, flags := { s.flags with v := true, z := true, c := true } }, 0x0202⟩,
  ⟨0x0200, [0x69, 0xFF], fun s => { s with a := 0xFF, flags := { s.flags with c := true } }, 2,
      fun s => { s with flags := { s.flags with n := true } }, 0x0202⟩,
  ⟨0x0200, [0x65, 0x10], fun s => ({ s with a := 0x01 }).write 0x0010 0x02, 3, fun s => { s with a := 0x03 },
      0x0202⟩,
  ⟨0x0200, [0x75, 0xFF], fun s => ({ s with a := 0x01, x := 0x02 }).write 0x0001 0x03, 4,
      fun s => { s with a := 0x04 }, 0x0202⟩,
  ⟨0x0200, [0x7D, 0xF0, 0x12], fun s => ({ s with a := 0x01, x := 0x20 }).write 0x1310 0x04, 5,
      fun s => { s with a := 0x05 }, 0x0203⟩,
  ⟨0x0200, [0x79, 0xF0, 0x12], fun s => ({ s with a := 0x01, y := 0x0F }).write 0x12FF 0x05, 4,
      fun s => { s with a := 0x06 }, 0x0203⟩,
  ⟨0x0200, [0x61, 0xFF],
      fun s => ((({ s with a := 0x01, x := 0x00 }).write 0x00FF 0x34).write 0x0000 0x12).write 0x1234 0x06, 6,
      fun s => { s with a := 0x07 }, 0x0202⟩,
  ⟨0x0200, [0x71, 0x20],
      fun s => ((({ s with a := 0x01, y := 0x10 }).write 0x0020 0xF8).write 0x0021 0x12).write 0x1308 0x07, 6,
      fun s => { s with a := 0x08 }, 0x0202⟩].all
    Vec.holds = true := by decide

/-- V14, V15, V16, V17, V18 (95_test_vectors.md; R136). -/
theorem test_sbc : [
  ⟨0x0200, [0xE9, 0xF0], fun s => { s with a := 0x50, flags := { s.flags with c := true } }, 2,
      fun s => { s with a := 0x60, flags := { s.flags with c := false } }, 0x0202⟩,
  ⟨0x0200, [0xE9, 0x01], fun s => { s with a := 0x00, flags := { s.flags with c := true } }, 2,
      fun s => { s with a := 0xFF, flags := { s.flags with n := true, c := false } }, 0x0202⟩,
  ⟨0x0200, [0xE9, 0x01], fun s => { s with a := 0x80, flags := { s.flags with c := true } }, 2,
      fun s => { s with a := 0x7F, flags := { s.flags with v := true } }, 0x0202⟩,
  ⟨0x0200, [0xE9, 0x05], fun s => { s with a := 0x05, flags := { s.flags with c := false } }, 2,
      fun s => { s with a := 0xFF, flags := { s.flags with n := true } }, 0x0202⟩,
  ⟨0x0200, [0xE9, 0x05], fun s => { s with a := 0x05, flags := { s.flags with c := true } }, 2,
      fun s => { s with a := 0x00, flags := { s.flags with z := true } },
      0x0202⟩].all
    Vec.holds = true := by decide

/-- V19, V20, V21, V22 (95_test_vectors.md; R137). -/
theorem test_cmp : [
  ⟨0x0200, [0xC9, 0x10], fun s => { s with a := 0x10 }, 2,
      fun s => { s with flags := { s.flags with z := true, c := true } }, 0x0202⟩,
  ⟨0x0200, [0xC9, 0x20], fun s => { s with a := 0x10 }, 2,
      fun s => { s with flags := { s.flags with n := true } }, 0x0202⟩,
  ⟨0x0200, [0xC9, 0xFF], fun s => { s with a := 0x00 }, 2, id, 0x0202⟩,
  ⟨0x0200, [0xC9, 0x00], fun s => { s with a := 0xFF, flags := { s.flags with v := true } }, 2,
      fun s => { s with flags := { s.flags with n := true, c := true } },
      0x0202⟩].all
    Vec.holds = true := by decide

/-- V23 (95_test_vectors.md; R138). -/
theorem test_cpx : [
  ⟨0x0200, [0xE4, 0x30], fun s => ({ s with x := 0x40 }).write 0x0030 0x3F, 3,
      fun s => { s with flags := { s.flags with c := true } }, 0x0202⟩].all
    Vec.holds = true := by decide

/-- V24 (95_test_vectors.md; R139). -/
theorem test_cpy : [
  ⟨0x0200, [0xC0, 0x81], fun s => { s with y := 0x01 }, 2,
      fun s => { s with flags := { s.flags with n := true } }, 0x0202⟩].all
    Vec.holds = true := by decide

/-- V25, V26 (95_test_vectors.md; R140). -/
theorem test_inc : [
  ⟨0x0200, [0xE6, 0x44], fun s => s.write 0x0044 0xFF, 5,
      fun s => ({ s with flags := { s.flags with z := true } }).write 0x0044 0x00, 0x0202⟩,
  ⟨0x0200, [0xFE, 0xFF, 0x80], fun s => ({ s with x := 0x01 }).write 0x8100 0x7F, 7,
      fun s => ({ s with flags := { s.flags with n := true } }).write 0x8100 0x80,
      0x0203⟩].all
    Vec.holds = true := by decide

/-- V27 (95_test_vectors.md; R141). -/
theorem test_dec : [
  ⟨0x0200, [0xC6, 0x44], fun s => s.write 0x0044 0x00, 5,
      fun s => ({ s with flags := { s.flags with n := true } }).write 0x0044 0xFF,
      0x0202⟩].all
    Vec.holds = true := by decide

/-- V28 (95_test_vectors.md; R142). -/
theorem test_inx : [
  ⟨0x0200, [0xE8], fun s => { s with x := 0xFF }, 2,
      fun s => { s with x := 0x00, flags := { s.flags with z := true } },
      0x0201⟩].all
    Vec.holds = true := by decide

/-- V29 (95_test_vectors.md; R143). -/
theorem test_iny : [
  ⟨0x0200, [0xC8], fun s => { s with y := 0x7F }, 2,
      fun s => { s with y := 0x80, flags := { s.flags with n := true } },
      0x0201⟩].all
    Vec.holds = true := by decide

/-- V30 (95_test_vectors.md; R144). -/
theorem test_dex : [
  ⟨0x0200, [0xCA], fun s => { s with x := 0x00 }, 2,
      fun s => { s with x := 0xFF, flags := { s.flags with n := true } },
      0x0201⟩].all
    Vec.holds = true := by decide

/-- V31 (95_test_vectors.md; R145). -/
theorem test_dey : [
  ⟨0x0200, [0x88], fun s => { s with y := 0x01 }, 2,
      fun s => { s with y := 0x00, flags := { s.flags with z := true } },
      0x0201⟩].all
    Vec.holds = true := by decide

/-- V32, V33, V34 (95_test_vectors.md; R150). -/
theorem test_jmp : [
  ⟨0x0200, [0x4C, 0x34, 0x12], id, 3, id, 0x1234⟩,
  ⟨0x0200, [0x6C, 0xFF, 0x02], fun s => (s.write 0x02FF 0x34).write 0x0300 0x12, 5, id, 0x1234⟩,
  ⟨0x0200, [0x6C, 0x00, 0x04], fun s => (s.write 0x0400 0x00).write 0x0401 0x80, 5, id,
      0x8000⟩].all
    Vec.holds = true := by decide

/-- V35, V36 (95_test_vectors.md; R152). -/
theorem test_jsr : [
  ⟨0x0300, [0x20, 0x34, 0x12], id, 6, fun s => (({ s with sp := 0xFD }).write 0x01FF 0x03).write 0x01FE 0x02,
      0x1234⟩,
  ⟨0x0300, [0x20, 0x34, 0x12], fun s => { s with sp := 0x01 }, 6,
      fun s => (({ s with sp := 0xFF }).write 0x0101 0x03).write 0x0100 0x02,
      0x1234⟩].all
    Vec.holds = true := by decide

/-- V37, V38 (95_test_vectors.md; R153). -/
theorem test_rts : [
  ⟨0x0200, [0x60], fun s => (({ s with sp := 0xFD }).write 0x01FE 0x02).write 0x01FF 0x03, 6,
      fun s => { s with sp := 0xFF }, 0x0303⟩,
  ⟨0x0200, [0x60], fun s => (({ s with sp := 0xFE }).write 0x01FF 0xFF).write 0x0100 0xFF, 6,
      fun s => { s with sp := 0x00 }, 0x0000⟩].all
    Vec.holds = true := by decide

/-- V39, V40, V41, V42, V43, V44, V52 (95_test_vectors.md; R159). -/
theorem test_bne : [
  ⟨0x0200, [0xD0, 0x04], fun s => { s with flags := { s.flags with z := true } }, 2, id, 0x0202⟩,
  ⟨0x0200, [0xD0, 0x04], fun s => { s with flags := { s.flags with z := false } }, 3, id, 0x0206⟩,
  ⟨0x0200, [0xD0, 0xFC], fun s => { s with flags := { s.flags with z := false } }, 4, id, 0x01FE⟩,
  ⟨0x02F0, [0xD0, 0x7F], fun s => { s with flags := { s.flags with z := false } }, 4, id, 0x0371⟩,
  ⟨0x0210, [0xD0, 0x80], fun s => { s with flags := { s.flags with z := false } }, 4, id, 0x0192⟩,
  ⟨0x0200, [0xD0, 0xFE], fun s => { s with flags := { s.flags with z := false } }, 3, id, 0x0200⟩,
  ⟨0xFFF8, [0xD0, 0x10], fun s => { s with flags := { s.flags with z := false } }, 4, id,
      0x000A⟩].all
    Vec.holds = true := by decide

/-- V45 (95_test_vectors.md; R155). -/
theorem test_bcc : [
  ⟨0x0200, [0x90, 0x02], fun s => { s with flags := { s.flags with c := false } }, 3, id,
      0x0204⟩].all
    Vec.holds = true := by decide

/-- V46 (95_test_vectors.md; R156). -/
theorem test_bcs : [
  ⟨0x0200, [0xB0, 0x02], fun s => { s with flags := { s.flags with c := false } }, 2, id,
      0x0202⟩].all
    Vec.holds = true := by decide

/-- V47 (95_test_vectors.md; R157). -/
theorem test_beq : [
  ⟨0x0200, [0xF0, 0x02], fun s => { s with flags := { s.flags with z := true } }, 3, id,
      0x0204⟩].all
    Vec.holds = true := by decide

/-- V48 (95_test_vectors.md; R158). -/
theorem test_bmi : [
  ⟨0x0200, [0x30, 0x02], fun s => { s with flags := { s.flags with n := true } }, 3, id,
      0x0204⟩].all
    Vec.holds = true := by decide

/-- V49 (95_test_vectors.md; R160). -/
theorem test_bpl : [
  ⟨0x0200, [0x10, 0x02], fun s => { s with flags := { s.flags with n := true } }, 2, id,
      0x0202⟩].all
    Vec.holds = true := by decide

/-- V50 (95_test_vectors.md; R161). -/
theorem test_bvc : [
  ⟨0x0200, [0x50, 0x02], fun s => { s with flags := { s.flags with v := false } }, 3, id,
      0x0204⟩].all
    Vec.holds = true := by decide

/-- V51 (95_test_vectors.md; R162). -/
theorem test_bvs : [
  ⟨0x0200, [0x70, 0x02], fun s => { s with flags := { s.flags with v := true } }, 3, id,
      0x0204⟩].all
    Vec.holds = true := by decide

/-- V53, V54, V55, V56 (95_test_vectors.md; R170). -/
theorem test_lda : [
  ⟨0x0200, [0xA9, 0x00], fun s => { s with a := 0x55, flags := { s.flags with n := true } }, 2,
      fun s => { s with a := 0x00, flags := { s.flags with n := false, z := true } }, 0x0202⟩,
  ⟨0x0200, [0xA9, 0x80], id, 2, fun s => { s with a := 0x80, flags := { s.flags with n := true } }, 0x0202⟩,
  ⟨0x0200, [0xBD, 0xFF, 0x12], fun s => ({ s with x := 0x01 }).write 0x1300 0x01, 5,
      fun s => { s with a := 0x01 }, 0x0203⟩,
  ⟨0x0200, [0xB9, 0xFF, 0xFF], fun s => ({ s with y := 0x02 }).write 0x0001 0x66, 5,
      fun s => { s with a := 0x66 }, 0x0203⟩].all
    Vec.holds = true := by decide

/-- V57, V58 (95_test_vectors.md; R171). -/
theorem test_ldx : [
  ⟨0x0200, [0xB6, 0xFE], fun s => ({ s with y := 0x03 }).write 0x0001 0x90, 4,
      fun s => { s with x := 0x90, flags := { s.flags with n := true } }, 0x0202⟩,
  ⟨0x0200, [0xBE, 0x00, 0x12], fun s => ({ s with y := 0x05 }).write 0x1205 0x00, 4,
      fun s => { s with flags := { s.flags with z := true } }, 0x0203⟩].all
    Vec.holds = true := by decide

/-- V59 (95_test_vectors.md; R172). -/
theorem test_ldy : [
  ⟨0x0200, [0xBC, 0xF0, 0x12], fun s => ({ s with x := 0x10 }).write 0x1300 0x7F, 5,
      fun s => { s with y := 0x7F }, 0x0203⟩].all
    Vec.holds = true := by decide

/-- V60, V61, V62 (95_test_vectors.md; R173). -/
theorem test_sta : [
  ⟨0x0200, [0x9D, 0xFF, 0x12], fun s => { s with a := 0xAB, x := 0x01 }, 5, fun s => s.write 0x1300 0xAB,
      0x0203⟩,
  ⟨0x0200, [0x91, 0x40], fun s => (({ s with a := 0xCD, y := 0x01 }).write 0x0040 0xFF).write 0x0041 0x12, 6,
      fun s => s.write 0x1300 0xCD, 0x0202⟩,
  ⟨0x0200, [0x81, 0xFE], fun s => (({ s with a := 0xEF, x := 0x01 }).write 0x00FF 0x00).write 0x0000 0x30, 6,
      fun s => s.write 0x3000 0xEF, 0x0202⟩].all
    Vec.holds = true := by decide

/-- V63 (95_test_vectors.md; R174). -/
theorem test_stx : [
  ⟨0x0200, [0x96, 0xF0], fun s => { s with x := 0x12, y := 0x20 }, 4, fun s => s.write 0x0010 0x12,
      0x0202⟩].all
    Vec.holds = true := by decide

/-- V64 (95_test_vectors.md; R175). -/
theorem test_sty : [
  ⟨0x0200, [0x8C, 0x00, 0x03], fun s => { s with y := 0x00, flags := { s.flags with z := false, n := true } },
      4, fun s => s.write 0x0300 0x00, 0x0203⟩].all
    Vec.holds = true := by decide

/-- V65 (95_test_vectors.md; R180). -/
theorem test_and : [
  ⟨0x0200, [0x29, 0x0F], fun s => { s with a := 0xF0 }, 2,
      fun s => { s with a := 0x00, flags := { s.flags with z := true } },
      0x0202⟩].all
    Vec.holds = true := by decide

/-- V66 (95_test_vectors.md; R181). -/
theorem test_ora : [
  ⟨0x0200, [0x09, 0x80], fun s => { s with a := 0x01 }, 2,
      fun s => { s with a := 0x81, flags := { s.flags with n := true } },
      0x0202⟩].all
    Vec.holds = true := by decide

/-- V67 (95_test_vectors.md; R182). -/
theorem test_eor : [
  ⟨0x0200, [0x49, 0xFF], fun s => { s with a := 0xFF }, 2,
      fun s => { s with a := 0x00, flags := { s.flags with z := true } },
      0x0202⟩].all
    Vec.holds = true := by decide

/-- V68, V69 (95_test_vectors.md; R183). -/
theorem test_bit : [
  ⟨0x0200, [0x24, 0x10], fun s => ({ s with a := 0x01 }).write 0x0010 0xC0, 3,
      fun s => { s with flags := { s.flags with n := true, v := true, z := true } }, 0x0202⟩,
  ⟨0x0200, [0x2C, 0x00, 0x10],
      fun s => ({ s with a := 0x40, flags := { s.flags with n := true, v := false } }).write 0x1000 0x7F, 4,
      fun s => { s with flags := { s.flags with n := false, v := true } },
      0x0203⟩].all
    Vec.holds = true := by decide

/-- V70, V71 (95_test_vectors.md; R184). -/
theorem test_asl : [
  ⟨0x0200, [0x0A], fun s => { s with a := 0x81 }, 2,
      fun s => { s with a := 0x02, flags := { s.flags with c := true } }, 0x0201⟩,
  ⟨0x0200, [0x06, 0x10], fun s => s.write 0x0010 0x40, 5,
      fun s => ({ s with flags := { s.flags with n := true } }).write 0x0010 0x80,
      0x0202⟩].all
    Vec.holds = true := by decide

/-- V72, V73 (95_test_vectors.md; R185). -/
theorem test_lsr : [
  ⟨0x0200, [0x4A], fun s => { s with a := 0x01 }, 2,
      fun s => { s with a := 0x00, flags := { s.flags with z := true, c := true } }, 0x0201⟩,
  ⟨0x0200, [0x5E, 0x34, 0x12], fun s => ({ s with x := 0x01 }).write 0x1235 0xFF, 7,
      fun s => ({ s with flags := { s.flags with c := true } }).write 0x1235 0x7F,
      0x0203⟩].all
    Vec.holds = true := by decide

/-- V74, V75 (95_test_vectors.md; R186). -/
theorem test_rol : [
  ⟨0x0200, [0x2A], fun s => { s with a := 0x80, flags := { s.flags with c := false } }, 2,
      fun s => { s with a := 0x00, flags := { s.flags with z := true, c := true } }, 0x0201⟩,
  ⟨0x0200, [0x2A], fun s => { s with a := 0x40, flags := { s.flags with c := true } }, 2,
      fun s => { s with a := 0x81, flags := { s.flags with n := true, c := false } },
      0x0201⟩].all
    Vec.holds = true := by decide

/-- V76, V77 (95_test_vectors.md; R187). -/
theorem test_ror : [
  ⟨0x0200, [0x6A], fun s => { s with a := 0x01, flags := { s.flags with c := false } }, 2,
      fun s => { s with a := 0x00, flags := { s.flags with z := true, c := true } }, 0x0201⟩,
  ⟨0x0200, [0x76, 0x10], fun s => ({ s with x := 0x01, flags := { s.flags with c := true } }).write 0x0011 0x00,
      6, fun s => ({ s with flags := { s.flags with n := true, c := false } }).write 0x0011 0x80,
      0x0202⟩].all
    Vec.holds = true := by decide

/-- V78, V79 (95_test_vectors.md; R190). -/
theorem test_pha : [
  ⟨0x0200, [0x48], fun s => { s with a := 0x5A }, 3, fun s => ({ s with sp := 0xFE }).write 0x01FF 0x5A,
      0x0201⟩,
  ⟨0x0200, [0x48], fun s => { s with a := 0x5A, sp := 0x00 }, 3,
      fun s => ({ s with sp := 0xFF }).write 0x0100 0x5A, 0x0201⟩].all
    Vec.holds = true := by decide

/-- V80, V81 (95_test_vectors.md; R191). -/
theorem test_php : [
  ⟨0x0200, [0x08], fun s => { s with flags := { s.flags with c := true, n := true } }, 3,
      fun s => ({ s with sp := 0xFE }).write 0x01FF 0xB5, 0x0201⟩,
  ⟨0x0200, [0x08], fun s => { s with flags := { s.flags with b := true, i := false } }, 3,
      fun s => ({ s with sp := 0xFE }).write 0x01FF 0x30, 0x0201⟩].all
    Vec.holds = true := by decide

/-- V82, V83 (95_test_vectors.md; R192). -/
theorem test_pla : [
  ⟨0x0200, [0x68], fun s => ({ s with sp := 0xFE }).write 0x01FF 0x00, 4,
      fun s => { s with sp := 0xFF, flags := { s.flags with z := true } }, 0x0201⟩,
  ⟨0x0200, [0x68], fun s => ({ s with sp := 0xFF }).write 0x0100 0x80, 4,
      fun s => { s with a := 0x80, sp := 0x00, flags := { s.flags with n := true } },
      0x0201⟩].all
    Vec.holds = true := by decide

/-- V84, V85 (95_test_vectors.md; R193). -/
theorem test_plp : [
  ⟨0x0200, [0x28], fun s => ({ s with sp := 0xFE }).write 0x01FF 0xFF, 4,
      fun s => { s with sp := 0xFF, flags := { s.flags with n := true, v := true, d := true, z := true, c := true } }, 0x0201⟩,
  ⟨0x0200, [0x28],
      fun s => ({ s with sp := 0xFE, flags := { s.flags with b := true, c := true, n := true } }).write 0x01FF 0x00, 4, fun s => { s with sp := 0xFF, flags := { s.flags with n := false, i := false, c := false } }, 0x0201⟩].all
    Vec.holds = true := by decide

/-- V86 (95_test_vectors.md; R194). -/
theorem test_tax : [
  ⟨0x0200, [0xAA], fun s => { s with a := 0x00, x := 0x11 }, 2,
      fun s => { s with x := 0x00, flags := { s.flags with z := true } },
      0x0201⟩].all
    Vec.holds = true := by decide

/-- V87 (95_test_vectors.md; R195). -/
theorem test_tay : [
  ⟨0x0200, [0xA8], fun s => { s with a := 0x90 }, 2,
      fun s => { s with y := 0x90, flags := { s.flags with n := true } },
      0x0201⟩].all
    Vec.holds = true := by decide

/-- V88 (95_test_vectors.md; R196). -/
theorem test_txa : [
  ⟨0x0200, [0x8A], fun s => { s with x := 0x7F, a := 0x80 }, 2, fun s => { s with a := 0x7F },
      0x0201⟩].all
    Vec.holds = true := by decide

/-- V89 (95_test_vectors.md; R197). -/
theorem test_tya : [
  ⟨0x0200, [0x98], fun s => { s with y := 0x00, a := 0x01 }, 2,
      fun s => { s with a := 0x00, flags := { s.flags with z := true } },
      0x0201⟩].all
    Vec.holds = true := by decide

/-- V90 (95_test_vectors.md; R198). -/
theorem test_tsx : [
  ⟨0x0200, [0xBA], fun s => { s with sp := 0x80 }, 2,
      fun s => { s with x := 0x80, flags := { s.flags with n := true } },
      0x0201⟩].all
    Vec.holds = true := by decide

/-- V91 (95_test_vectors.md; R199). -/
theorem test_txs : [
  ⟨0x0200, [0x9A], fun s => { s with x := 0x00, flags := { s.flags with z := false, n := true } }, 2,
      fun s => { s with sp := 0x00 }, 0x0201⟩].all
    Vec.holds = true := by decide

/-- V92 (95_test_vectors.md; R200). -/
theorem test_clc : [
  ⟨0x0200, [0x18], fun s => { s with flags := { s.flags with c := true } }, 2,
      fun s => { s with flags := { s.flags with c := false } }, 0x0201⟩].all
    Vec.holds = true := by decide

/-- V93 (95_test_vectors.md; R201). -/
theorem test_sec : [
  ⟨0x0200, [0x38], id, 2, fun s => { s with flags := { s.flags with c := true } },
      0x0201⟩].all
    Vec.holds = true := by decide

/-- V94 (95_test_vectors.md; R202). -/
theorem test_cli : [
  ⟨0x0200, [0x58], id, 2, fun s => { s with flags := { s.flags with i := false } },
      0x0201⟩].all
    Vec.holds = true := by decide

/-- V95 (95_test_vectors.md; R203). -/
theorem test_sei : [
  ⟨0x0200, [0x78], fun s => { s with flags := { s.flags with i := false } }, 2,
      fun s => { s with flags := { s.flags with i := true } }, 0x0201⟩].all
    Vec.holds = true := by decide

/-- V96 (95_test_vectors.md; R204). -/
theorem test_cld : [
  ⟨0x0200, [0xD8], fun s => { s with flags := { s.flags with d := true } }, 2,
      fun s => { s with flags := { s.flags with d := false } }, 0x0201⟩].all
    Vec.holds = true := by decide

/-- V97 (95_test_vectors.md; R205). -/
theorem test_sed : [
  ⟨0x0200, [0xF8], id, 2, fun s => { s with flags := { s.flags with d := true } },
      0x0201⟩].all
    Vec.holds = true := by decide

/-- V98 (95_test_vectors.md; R206). -/
theorem test_clv : [
  ⟨0x0200, [0xB8], fun s => { s with flags := { s.flags with v := true } }, 2,
      fun s => { s with flags := { s.flags with v := false } }, 0x0201⟩].all
    Vec.holds = true := by decide

/-- V99 (95_test_vectors.md; R207). -/
theorem test_nop : [
  ⟨0x0200, [0xEA], fun s => { s with a := 0x12, flags := { s.flags with c := true } }, 2, id,
      0x0201⟩].all
    Vec.holds = true := by decide

/-- V100, V101 (95_test_vectors.md; R215). -/
theorem test_brk : [
  ⟨0x0281, [0x00, 0xFF],
      fun s => (({ s with flags := { s.flags with c := true, i := false } }).write 0xFFFE 0x00).write 0xFFFF 0x90, 7, fun s => ((({ s with sp := 0xFC, flags := { s.flags with i := true } }).write 0x01FF 0x02).write 0x01FE 0x83).write 0x01FD 0x31, 0x9000⟩,
  ⟨0x1000, [0x00],
      fun s => (({ s with sp := 0x01, flags := { s.flags with d := true } }).write 0xFFFE 0x34).write 0xFFFF 0x12, 7, fun s => ((({ s with sp := 0xFE }).write 0x0101 0x10).write 0x0100 0x02).write 0x01FF 0x3C, 0x1234⟩].all
    Vec.holds = true := by decide

/-- V102, V103 (95_test_vectors.md; R216). -/
theorem test_rti : [
  ⟨0x0200, [0x40],
      fun s => ((({ s with sp := 0xFC, flags := { s.flags with i := true } }).write 0x01FD 0x31).write 0x01FE 0x83).write 0x01FF 0x02, 6, fun s => { s with sp := 0xFF, flags := { s.flags with i := false, c := true } }, 0x0283⟩,
  ⟨0x0200, [0x40],
      fun s => ((({ s with sp := 0xFC, flags := { s.flags with b := false } }).write 0x01FD 0xFF).write 0x01FE 0x00).write 0x01FF 0x10, 6, fun s => { s with sp := 0xFF, flags := { s.flags with n := true, v := true, d := true, z := true, c := true } }, 0x1000⟩].all
    Vec.holds = true := by decide

/-- V13, E8: the decimal refusal. -/
theorem test_adc_refused :
    let s := { State.reset.writeBytes 0x0200 [0x69, 0x01] with
      pc := 0x0200, a := 0x09, flags := { State.reset.flags with d := true } }
    s.execute 2 = (.refused (.decimal 0x69 0x0200), { s with
      pc := 0x0201, refused := some (.decimal 0x69 0x0200), orderSetup := .locked }) := by
  decide

/-- V104: an unrecognized opcode is counted. -/
theorem test_unrecognized :
    let s := { State.reset.writeBytes 0x0200 [0x02] with pc := 0x0200, budget := some 1 }
    nextOf (step s) = some { s with
      pc := 0x0201, budget := some 0, illegalCount := 1, events := [.unrecognized 0x02 0x0200] } := by
  decide

/-! ## The ALU rows of L2.8 -/

/-- R118: r, C, V. -/
theorem test_alu_adc :
    aluAdc 0x7F 0x01 false = ⟨0x80, false, true⟩ ∧ aluAdc 0x80 0xFF false = ⟨0x7F, true, true⟩ ∧
    aluAdc 0x7F 0x80 true = ⟨0x00, true, false⟩ ∧ aluAdc 0x3F 0x40 true = ⟨0x80, false, true⟩ ∧
    aluAdc 0xC0 0xC0 false = ⟨0x80, true, false⟩ := by decide

/-- R121: r, C, V. -/
theorem test_alu_sbc :
    aluSbc 0x80 0x01 true = ⟨0x7F, true, true⟩ ∧ aluSbc 0x7F 0xFF true = ⟨0x80, false, true⟩ ∧
    aluSbc 0x00 0x00 false = ⟨0xFF, false, false⟩ ∧ aluSbc 0xFF 0xFF true = ⟨0x00, true, false⟩ := by decide

/-- R122: C, Z, N. -/
theorem test_alu_cmp :
    aluCmp 0x00 0x00 = ⟨true, true, false⟩ ∧ aluCmp 0x01 0x02 = ⟨false, false, true⟩ ∧
    aluCmp 0x80 0x01 = ⟨true, false, false⟩ ∧ aluCmp 0x01 0x80 = ⟨false, false, true⟩ ∧
    aluCmp 0xFF 0xFE = ⟨true, false, false⟩ := by decide

/-- R123 to R126, on 0x81: r, C. -/
theorem test_alu_shifts :
    aluAsl 0x81 = ⟨0x02, true⟩ ∧ aluLsr 0x81 = ⟨0x40, true⟩ ∧
    aluRol 0x81 false = ⟨0x02, true⟩ ∧ aluRol 0x81 true = ⟨0x03, true⟩ ∧
    aluRor 0x81 false = ⟨0x40, true⟩ ∧ aluRor 0x81 true = ⟨0xC0, true⟩ := by decide

/-- R130: r, C, Z, V, N. -/
theorem test_alu_adc_bcd :
    aluAdcBcd 0x58 0x46 true = ⟨0x05, true, false, true, true⟩ ∧
    aluAdcBcd 0x99 0x01 false = ⟨0x00, true, false, false, true⟩ ∧
    aluAdcBcd 0x12 0x34 false = ⟨0x46, false, false, false, false⟩ ∧
    aluAdcBcd 0x09 0x01 false = ⟨0x10, false, false, false, false⟩ ∧
    aluAdcBcd 0x50 0x50 false = ⟨0x00, true, false, true, true⟩ ∧
    aluAdcBcd 0x79 0x00 true = ⟨0x80, false, false, true, true⟩ := by decide

/-- R131: the result byte. -/
theorem test_alu_sbc_bcd :
    aluSbcBcd 0x40 0x13 true = 0x27 ∧ aluSbcBcd 0x00 0x01 true = 0x99 ∧ aluSbcBcd 0x46 0x12 true = 0x34 ∧
    aluSbcBcd 0x32 0x02 false = 0x29 ∧ aluSbcBcd 0x21 0x34 true = 0x87 := by decide

/-! ## The execute loop and the host port (L1.5, L1.6, L2.9) -/

/-- The reset state with bytes at an address, and `pc` there. -/
def loaded (a : Word) (bytes : List Byte) : State := { State.reset.writeBytes a bytes with pc := a }

/-- E1. -/
theorem test_execute_not_reset :
    State.powerOn.execute 5 = (.refused .notReset, { State.powerOn with refused := some .notReset }) := by decide

/-- E2. -/
theorem test_execute_zero :
    State.reset.execute 0 = (.returned 0, { State.reset with orderSetup := .locked }) := by decide

/-- L1.6: LDA zero page,X with a budget of 4. -/
theorem test_execute_lda :
    let s := { (State.reset.writeBytes 0xFFFC [0xB5, 0x40]).write 0x0042 0x84 with x := 2 }
    s.execute 4 = (.returned 0, { s with
      a := 0x84, pc := 0xFFFE, flags := { s.flags with n := true }, orderSetup := .locked }) := by decide

/-- E5: one step overshoots its budget. -/
theorem test_execute_jsr : ((loaded 0x0200 [0x20, 0x00, 0x03]).execute 1).1 = .returned (-5) := by decide

/-- E7: a jump under `big`. -/
theorem test_execute_big :
    let s := { State.reset.writeBytes 0xFFFC [0x4C, 0x12, 0x34] with wordOrder := .big }
    s.execute 3 = (.returned 0, { s with pc := 0x1234, orderSetup := .locked }) := by decide

/-- E4: the shortfall of the second LDA, at 0x0202 with one cycle left. -/
theorem test_execute_shortfall :
    let s := { loaded 0x0202 [0xA9, 0x02] with
      a := 0x01, params := { Params.default with shortfall := .fault } }
    s.execute 1 = (.fatal (.budgetShortfall 0xA9 0x0202), { s with
      pc := 0x0203, fatal := some (.budgetShortfall 0xA9 0x0202), orderSetup := .locked }) := by decide

/-- E11: INX is unrecognized in the minimum set. -/
theorem test_execute_minimum :
    let s := { loaded 0x0200 [0xE8] with params := { Params.default with opcodeSet := .minimum19 } }
    s.execute 1 = (.returned 0, { s with
      pc := 0x0201, illegalCount := 1, events := [.unrecognized 0xE8 0x0200],
      orderSetup := .locked }) := by decide

/-- E12: an operand sum out of range. -/
theorem test_execute_out_of_range :
    let s := { loaded 0x0200 [0xBD, 0xFF, 0xFF] with
      x := 1, params := { Params.default with addrOverflow := .fault } }
    s.execute 4 = (.fatal (.readRange 0x10000), { s with
      pc := 0x0203, fatal := some (.readRange 0x10000), orderSetup := .locked }) := by decide

/-- L1.8: the 10th unrecognized opcode. -/
theorem test_execute_illegal_limit :
    let s := { loaded 0x0005 [0x02, 0x02] with illegalCount := 9 }
    s.execute 5 = (.fatal (.illegalLimit 0x02 0x0005), { s with
      pc := 0x0006, illegalCount := 10, events := [.unrecognized 0x02 0x0005],
      fatal := some (.illegalLimit 0x02 0x0005), orderSetup := .locked }) := by decide

/-- L1.5. -/
theorem test_host_bounds :
    State.reset.hostRead 0x10000 =
        some (.fatal (.readRange 0x10000), { State.reset with fatal := some (.readRange 0x10000) }) ∧
      State.reset.hostWrite 0x10000 0x55 = some (.failed, State.reset) ∧
      State.reset.hostRead 0xFFFF = some (.byte 0, State.reset) ∧
      State.reset.hostWrite 0xFFFF 0x55 = some (.ok, State.reset.write 0xFFFF 0x55) := by decide

/-- L1.1: a reset of a used machine. -/
theorem test_resetOp :
    ({ State.reset with
      pc := 0x1234, sp := 0x10, flags := { State.reset.flags with i := false, d := true },
      mem := [(0, 0xAA), (0xFFFF, 0x55)], illegalCount := 3 } : State).resetOp =
      { State.reset with illegalCount := 3 } := by decide

/-- R45, R245: what `Auto` resolves to; the byte order is set once, not after an execute call of the session,
and anew for the next session. -/
theorem test_hostConfigure :
    let set := { State.reset with wordOrder := .big, orderSetup := .chosen }
    State.reset.hostConfigure .big .auto = some set ∧ set.hostConfigure .big .little = none ∧
      (State.reset.execute 0).2.hostConfigure .big .auto = none ∧
      ((State.reset.execute 0).2.resetOp).hostConfigure .big .auto = some set ∧
      set.resetOp = set := by decide

/-- R245: no reset and no second execute call while a call runs. -/
theorem test_host_during_call :
    let s := { State.reset with budget := some 1 }
    s.hostReset = none ∧ s.hostExecute 1 = none ∧ State.reset.hostReset = some State.reset := by decide

/-- R37: a host write takes the value modulo the width. -/
theorem test_hostWriteReg :
    State.reset.hostWriteReg .pc 0x12345 = some { State.reset with pc := 0x2345 } := by decide

/-- R220 to R222: the codes. -/
theorem test_codes :
    (Fault.readRange 0).code = 1 ∧ (Fault.illegalLimit 0 0).code = 2 ∧ (Fault.budgetShortfall 0 0).code = 3 ∧
      (Refusal.decimal 0 0).code = some 16 ∧ Refusal.notReset.code = some 17 ∧
      (Event.unrecognized 0 0).code = 32 ∧ WriteStatus.failed.code = 1 := by decide

/-- The first step after reset runs the instruction `withFetchWord` places. -/
theorem test_withFetchWord :
    nextOf (step (State.reset.withFetchWord 24 0xEFFC4C)) =
      some { State.reset.withFetchWord 24 0xEFFC4C with pc := 0xEFFC } := by decide

/-- A run of three steps is safe. -/
theorem test_runsSafely : (loaded 0x0200 [0xA2, 0x05, 0xCA, 0x4C, 0x00, 0x02]).runsSafely 3 = true := by decide

/-! ## Witnesses: a state and operands that meet the hypotheses of each obligation, at the edges of their clauses -/

open Sys2Proof.Claims

/-- Nothing stops a step of the state. -/
def ready (s : State) : Bool := s.fatal == none && s.refused == none && s.resetDone

/-- The reset state with other parameters. -/
def under (f : Params → Params) : State := { State.reset with params := f Params.default }

/-- Address sums out of range are fatal, X = Y = 1, and (zp),Y at 0x40 points to 0xFFFF. -/
def faulting : State :=
  { (under fun p => { p with addrOverflow := .fault }).writeBytes 0x0040 [0xFF, 0xFF] with x := 1, y := 1 }

/-- The outcome is a next state. -/
def completes (o : Outcome) : Bool := (nextOf o).isSome

/-- Where an outcome is a next state, some state is it. -/
theorem exists_of_completes {o : Outcome} (h : completes o = true) : ∃ t, o = .next t := by
  cases o with
  | next t => exact ⟨t, rfl⟩
  | fault f => simp [completes, nextOf] at h
  | refused r => simp [completes, nextOf] at h

/-! ### Encoding and the step -/

theorem test_witness_DecodeOfEncodeIsTheInstruction :
    Instr.wellFormed .documented151 .inx = true ∧ Instr.wellFormed .minimum19 (.jmpInd 0xFFFF) = true := by decide

theorem test_witness_DecodedBytesAreTheEncoding :
    decode .documented151 .big [0x4C, 0xEF, 0xFC, 0x00] = .ok (.jmpAbs 0xEFFC, [0x00]) := by decide

/-- The three budget clauses: complete, no budget, and a budget of exactly the base cost. -/
theorem test_witness_StepRunsDecodedInstruction :
    let s := loaded 0x0200 [0xA9, 0x01]
    let f := { s with params := { s.params with shortfall := .fault }, budget := some 2 }
    ready s = true ∧ s.params.shortfall = .complete ∧ s.budget = none ∧ ready f = true ∧
      f.params.shortfall = .fault ∧ f.budget = some ((Instr.ldaImm 0x01).entry.base : Int) ∧
      decode s.params.opcodeSet s.wordOrder [s.read s.pc, s.read (s.pc + 1), s.read (s.pc + 2)] =
        .ok (.ldaImm 0x01, [0x00]) := by decide

/-- An instruction whose bytes stand at the top of memory and wrap. -/
theorem test_witness_StepRunsTheEncodedInstruction :
    let s := loaded 0xFFFF [0x4C, 0x34, 0x12]
    ready s = true ∧ s.params.shortfall = .complete ∧
      Instr.wellFormed s.params.opcodeSet (.jmpAbs 0x1234) = true ∧
      encode s.wordOrder (.jmpAbs 0x1234) = [s.read s.pc, s.read (s.pc + 1), s.read (s.pc + 2)] := by decide

/-- The first, the 9th and the 10th. -/
theorem test_witness_UnrecognizedOpcodeIsCounted :
    let s := loaded 0x0200 [0x02]
    ready s = true ∧ decodeEntry s.params.opcodeSet (s.read s.pc) = none ∧
      nextOf (step s) ≠ none ∧ nextOf (step { s with illegalCount := 8 }) ≠ none ∧
      nextOf (step { s with illegalCount := 9 }) = none := by decide

/-- One cycle less than the base cost. -/
theorem test_witness_BudgetShortfallIsFatal :
    let s := { loaded 0x0200 [0xA9, 0x01] with
      params := { Params.default with shortfall := .fault }, budget := some 1 }
    ready s = true ∧ s.params.shortfall = .fault ∧
      decodeEntry s.params.opcodeSet (s.read s.pc) = some ⟨.lda, .imm, 2, false⟩ ∧
      nextOf (step s) = none := by decide

theorem test_witness_NothingFollowsAFatal :
    ({ State.reset with fatal := some (.readRange 0x10000) } : State).fatal = some (.readRange 0x10000) := rfl

theorem test_witness_ExecuteBeforeResetIsRefused :
    State.powerOn.fatal = none ∧ State.powerOn.refused = none ∧ State.powerOn.resetDone = false := by decide

theorem test_witness_ExecuteZeroRunsNothing : ready State.reset = true := by decide

/-- A next state with the budget overspent, with it spent, and with one cycle left; a fatal; and a refusal. -/
theorem test_witness_ExecuteRunsStepAfterStep :
    let s := loaded 0x0200 [0x69, 0x01, 0xEA]
    let d := { s with flags := { s.flags with d := true } }
    let n := { loaded 0x0200 [0x02] with illegalCount := 9 }
    (ready s = true ∧ (s.execute 1).1 = .returned (-1) ∧ (s.execute 2).1 = .returned 0 ∧
        (s.execute 3).1 = .returned (-1)) ∧
      (ready d = true ∧ (d.execute 2).1 = .refused (.decimal 0x69 0x0200)) ∧
      (ready n = true ∧ (n.execute 2).1 = .fatal (.illegalLimit 0x02 0x0200)) := by decide

/-- Without and with a budget: one cycle at least, seven at most. -/
theorem test_witness_StepChargesOneToSevenCycles :
    completes (step (loaded 0x0200 [0xEA])) = true ∧
      (nextOf (step { loaded 0x0200 [0x02] with budget := some 1 })).map State.budget = some (some 0) ∧
      (nextOf (step { loaded 0x0200 [0x00] with budget := some 1 })).map State.budget = some (some (-6)) := by
  decide

/-- The greatest overshoot: BRK with one cycle left. -/
theorem test_witness_ExecuteReturnsWithTheBudgetSpent :
    ((loaded 0x0200 [0x00]).execute 1).1 = .returned (-6) ∧ (State.reset.execute 0).1 = .returned 0 := by decide

/-- A step of a counted opcode and a step of a store, from states that meet the invariant. -/
theorem test_witness_StepKeepsTheInvariant :
    (let s := loaded 0x0200 [0x02]; s.Inv ∧ completes (step s) = true) ∧
    (let s := loaded 0x0200 [0x85, 0x10]; s.Inv ∧ completes (step s) = true) := by decide

/-! ### Rules over all instructions -/

/-- D = 0 under `refuse`, and D = 1 under `nmos_bcd`. -/
theorem test_witness_EveryInstructionCompletes :
    State.reset.params.addrOverflow = .wrap ∧ State.reset.flags.d = false ∧
      (under fun p => { p with decimal := .nmosBcd }).params.decimal ≠ .refuse := by decide

theorem test_witness_DecimalIsTheOnlyRefusal :
    let s := { State.reset with flags := { State.reset.flags with d := true } }
    s.flags.d = true ∧ s.params.decimal = .refuse ∧ (Instr.adcImm 1).mnemonic ∈ [Mnemonic.adc, .sbc] ∧
      nextOf (exec (.adcImm 1) s) = none ∧ completes (exec (.ldaImm 1) s) = true := by decide

/-- The three indexed modes and the indirect jump, each at its first sum out of range; the first of them with its
bytes at `pc`. -/
theorem test_witness_CoreFaultsAreOutOfRangeReads :
    exec (.ldaAbsX 0xFFFF) faulting = .fault (.readRange 0x10000) ∧
      exec (.ldaAbsY 0xFFFF) faulting = .fault (.readRange 0x10000) ∧
      exec (.ldaIndY 0x40) faulting = .fault (.readRange 0x10000) ∧
      exec (.jmpInd 0xFFFF) faulting = .fault (.readRange 0x10000) ∧
      (let s := { faulting.writeBytes 0x0200 [0xBD, 0xFF, 0xFF] with pc := 0x0200 }
       exec (.ldaAbsX 0xFFFF) s = .fault (.readRange 0x10000) ∧
        decode s.params.opcodeSet s.wordOrder [s.read s.pc, s.read (s.pc + 1), s.read (s.pc + 2)] =
          .ok (.ldaAbsX 0xFFFF, [])) ∧
      faulting.flags.d = false ∧ faulting.params.addrOverflow = .fault ∧
      (⟨.rorAbsX 0xFFFF, .absx 0xFFFF, 0x7E, 3, 7, false⟩ : Form) ∈ readingForms 0 0xFFFF ∧
      (faulting.resolve (.absx 0xFFFF)).place = .mem (.oor 0x10000) :=
  ⟨rfl, rfl, rfl, rfl, ⟨rfl, rfl⟩, rfl, rfl, by decide, by decide⟩

/-- A step that counts, and one that does not. -/
theorem test_witness_StepNeverWritesBOrConfiguration :
    (nextOf (step (loaded 0x0200 [0x02]))).map State.illegalCount = some 1 ∧
      (nextOf (step (loaded 0x0200 [0xEA]))).map State.illegalCount = some 0 := by decide

theorem test_witness_InterruptDisableMasksNothing :
    Instr.sei.mnemonic ∉ [Mnemonic.php, .brk] ∧ (Instr.adcImm 1).mnemonic ∉ [Mnemonic.php, .brk] := by decide

/-- A load, and the accumulator form of a shift. -/
theorem test_witness_OnlyListedInstructionsWriteMemory :
    (completes (exec (.ldaImm 1) State.reset) = true ∧ (Instr.ldaImm 1).mnemonic ∉ memoryWriters) ∧
      (completes (exec .aslAcc State.reset) = true ∧ Instr.aslAcc.entry.mode = .acc) := by decide

/-- Each register is written by a step. -/
theorem test_witness_RegistersChangeOnlyByTheirWriters :
    (nextOf (exec (.ldaImm 1) State.reset)).map State.a = some 1 ∧
      (nextOf (exec .aslAcc { State.reset with a := 1 })).map State.a = some 2 ∧
      (nextOf (exec .inx State.reset)).map State.x = some 1 ∧
      (nextOf (exec .iny State.reset)).map State.y = some 1 ∧
      (nextOf (exec .pha State.reset)).map State.sp = some 0xFE := by decide

/-- Each flag is written by a step. -/
theorem test_witness_FlagsChangeOnlyByTheirWriters :
    (nextOf (exec .sec State.reset)).map (·.flags.c) = some true ∧
      (nextOf (exec (.ldaImm 0) State.reset)).map (·.flags.z) = some true ∧
      (nextOf (exec .cli State.reset)).map (·.flags.i) = some false ∧
      (nextOf (exec .sed State.reset)).map (·.flags.d) = some true ∧
      (nextOf (exec (.bitZp 0x40) (State.reset.write 0x0040 0xC0))).map (·.flags.v) = some true := by decide

/-! ### Memory and addresses -/

/-- Canonical memory, and two addresses. -/
theorem test_witness_ReadAfterWrite : State.reset.mem.wf = true ∧ (0xFFFF : Word) ≠ 0x0000 := by decide

/-- A word at the top of memory, in both orders. -/
theorem test_witness_WordRoundTrip :
    State.reset.mem.wf = true ∧ State.reset.params.addrOverflow = .wrap ∧
      ((State.reset.writeBytes 0xFFFF [0x34, 0x12]).readWord 0xFFFF).toOption = some 0x1234 ∧
      (({ State.reset with wordOrder := .big }).writeBytes 0xFFFF [0x12, 0x34]).readWord 0xFFFF =
        .ok 0x1234 := ⟨by decide, by decide, rfl, rfl⟩

/-- A push at SP = 0x00 wraps within page 1. -/
theorem test_witness_PushThenPull :
    State.reset.mem.wf = true ∧ (({ State.reset with sp := 0x00 }).push 0x5A).read 0x0100 = 0x5A := by decide

/-- The last sum in range, and the first out of range under both policies; and an operand of each place. -/
theorem test_witness_AddressesAndOperands :
    faulting.resolve (.absx 0xFFFE) = ⟨.mem (.addr 0xFFFF), false⟩ ∧
      ({ State.reset with x := 1 }).resolve (.absx 0xFFFF) = ⟨.mem (.addr 0x0000), true⟩ ∧
      (faulting.resolve (.absx 0xFFFF)).place = .mem (.oor 0x10000) ∧
      (faulting.resolve (.imm 0x84)).place = .value 0x84 ∧ (faulting.resolve .acc).place = .acc ∧
      (faulting.operand (.zp 0x40)).toOption = some 0xFF := by decide

/-- Both policies at the last byte of page 0: the second byte of the pointer is at 0x0000 or 0x0100. -/
theorem test_witness_ZeroPagePointers :
    let m := (State.reset.write 0x00FF 0x34).writeBytes 0x0000 [0x12]
    let n := { (State.reset.writeBytes 0x00FF [0x34, 0x12]) with params := { Params.default with zpWrap := .linear } }
    m.params.zpWrap = .page ∧ m.resolve (.indx 0xFF) = ⟨.mem (.addr 0x1234), false⟩ ∧
      n.params.zpWrap = .linear ∧ n.resolve (.indx 0xFF) = ⟨.mem (.addr 0x1234), false⟩ := by decide

/-! ### The instructions -/

/-- D = 0, and D = 1 under `binary`, with a readable operand; and one that is fatal. -/
theorem test_witness_AdcBinaryResult :
    let s := { under (fun p => { p with decimal := .binary }) with flags := { State.reset.flags with d := true } }
    (⟨.adcAbsX 0xFFFF, .absx 0xFFFF, 0x7D, 3, 4, true⟩ : Form) ∈ adcForms 0 0xFFFF ∧
      State.reset.flags.d = false ∧ (State.reset.operand (.absx 0xFFFF)).toOption = some 0 ∧
      s.params.decimal = .binary ∧ (s.operand (.absx 0xFFFF)).toOption = some 0 ∧
      faulting.flags.d = false ∧ (faulting.operand (.absx 0xFFFF)).toOption = none := by decide

theorem test_witness_SbcBinaryResult :
    let s := { under (fun p => { p with decimal := .binary }) with flags := { State.reset.flags with d := true } }
    let e := { faulting with
      flags := { State.reset.flags with d := true }, params := { faulting.params with decimal := .nmosBcd } }
    (⟨.sbcIndY 0x40, .indy 0x40, 0xF1, 2, 5, true⟩ : Form) ∈ sbcForms 0x40 0 ∧
      State.reset.flags.d = false ∧ (State.reset.operand (.indy 0x40)).toOption = some 0 ∧
      s.params.decimal = .binary ∧ (s.operand (.indy 0x40)).toOption = some 0 ∧
      e.params.decimal ≠ .refuse ∧ (e.operand (.indy 0x40)).toOption = none := by decide

/-- D = 1 under `nmos_bcd`, with the greatest digits, and with a byte that is not decimal. -/
theorem test_witness_AdcDecimalResult :
    let s := { under (fun p => { p with decimal := .nmosBcd }) with flags := { State.reset.flags with d := true } }
    (⟨.adcImm 0x99, .imm 0x99, 0x69, 2, 2, false⟩ : Form) ∈ adcForms 0x99 0 ∧ s.flags.d = true ∧
      s.params.decimal = .nmosBcd ∧ (s.operand (.imm 0x99)).toOption = some 0x99 ∧ bcd 99 = 0x99 ∧
      s.a = bcd 0 ∧ (s.operand (.imm 0xFF)).toOption = some 0xFF := by decide

theorem test_witness_SbcDecimalResult :
    let s := { under (fun p => { p with decimal := .nmosBcd }) with flags := { State.reset.flags with d := true } }
    (⟨.sbcImm 0x99, .imm 0x99, 0xE9, 2, 2, false⟩ : Form) ∈ sbcForms 0x99 0 ∧ s.flags.d = true ∧
      s.params.decimal = .nmosBcd ∧ (s.operand (.imm 0x99)).toOption = some 0x99 ∧ bcd 99 = 0x99 ∧
      s.a = bcd 0 ∧ (s.operand (.imm 0xFF)).toOption = some 0xFF := by decide

/-- A readable operand and one that is fatal, of the forms of CMP (and so of every reading row). -/
theorem test_witness_CompareResult :
    (⟨.cmpAbsX 0xFFFF, .absx 0xFFFF, 0xDD, 3, 4, true⟩ : Form) ∈ cmpForms 0 0xFFFF ∧
      (State.reset.operand (.absx 0xFFFF)).toOption = some 0 ∧
      (faulting.operand (.absx 0xFFFF)).toOption = none := by decide

theorem test_witness_LoadResult :
    (⟨.ldaIndY 0x40, .indy 0x40, 0xB1, 2, 5, true⟩ : Form) ∈ ldaForms 0x40 0 ∧
      (State.reset.operand (.indy 0x40)).toOption = some 0 ∧
      (faulting.operand (.indy 0x40)).toOption = none := by decide

theorem test_witness_LogicResult :
    (⟨.eorAbsX 0xFFFF, .absx 0xFFFF, 0x5D, 3, 4, true⟩ : Form) ∈ eorForms 0 0xFFFF ∧
      (State.reset.operand (.absx 0xFFFF)).toOption = some 0 ∧
      (faulting.operand (.absx 0xFFFF)).toOption = none := by decide

theorem test_witness_BitTestResult :
    (⟨.bitAbs 0xFFFF, .abs 0xFFFF, 0x2C, 3, 4, false⟩ : Form) ∈ bitForms 0 0xFFFF ∧
      (State.reset.operand (.abs 0xFFFF)).toOption = some 0 := by decide

/-- A store in range, and one whose address sum left memory. -/
theorem test_witness_StoreResult :
    (⟨.staAbsX 0xFFFF, .absx 0xFFFF, 0x9D, 3, 5, false⟩ : Form) ∈ staForms 0 0xFFFF ∧
      State.reset.mem.wf = true ∧ (State.reset.resolve (.absx 0xFFFF)).place = .mem (.addr 0xFFFF) ∧
      faulting.mem.wf = true ∧ (faulting.resolve (.absx 0xFFFF)).place = .mem (.oor 0x10000) := by decide

theorem test_witness_IncrementMemoryResult :
    (⟨.incAbsX 0xFFFF, .absx 0xFFFF, 0xFE, 3, 7, false⟩ : Form) ∈ incForms 0 0xFFFF ∧
      State.reset.mem.wf = true ∧ (State.reset.operand (.absx 0xFFFF)).toOption = some 0 ∧
      (State.reset.resolve (.absx 0xFFFF)).place = .mem (.addr 0xFFFF) ∧
      faulting.mem.wf = true ∧ (faulting.operand (.absx 0xFFFF)).toOption = none := by decide

/-- The accumulator form, and a form in memory. -/
theorem test_witness_ShiftResult :
    (⟨.rolAcc, .acc, 0x2A, 1, 2, false⟩ : Form) ∈ rolForms 0 0 ∧ State.reset.mem.wf = true ∧
      (State.reset.operand .acc).toOption = some 0 ∧ (State.reset.resolve .acc).place = .acc ∧
      (⟨.rolZpX 0xFF, .zpx 0xFF, 0x36, 2, 6, false⟩ : Form) ∈ rolForms 0xFF 0 ∧
      (State.reset.operand (.zpx 0xFF)).toOption = some 0 ∧
      (State.reset.resolve (.zpx 0xFF)).place = .mem (.addr 0x00FF) ∧
      (⟨.rolAbsX 0xFFFF, .absx 0xFFFF, 0x3E, 3, 7, false⟩ : Form) ∈ rolForms 0 0xFFFF ∧
      faulting.mem.wf = true ∧ (faulting.operand (.absx 0xFFFF)).toOption = none := by decide

/-- A pointer before the last byte under `fault`, at it under `wrap`, and at it under `fault`. -/
theorem test_witness_JumpResult :
    (0xFFFE : Word) ≠ 0xFFFF ∧ completes (exec (.jmpInd 0xFFFE) faulting) = true ∧
      State.reset.params.addrOverflow = .wrap ∧ completes (exec (.jmpInd 0xFFFF) State.reset) = true ∧
      faulting.params.addrOverflow = .fault ∧ completes (exec (.jmpInd 0xFFFF) faulting) = false := by decide

/-- SP at both ends of page 1. -/
theorem test_witness_JsrResult :
    ({ State.reset with sp := 0x00 }).mem.wf = true ∧ ({ State.reset with sp := 0xFF }).mem.wf = true := by decide

/-- The state JSR leaves is itself a state to return from. -/
theorem test_witness_SubroutineReturns :
    State.reset.mem.wf = true ∧ ∃ t, exec (.jsr 0x1234) State.reset = .next t :=
  ⟨by decide, exists_of_completes (by decide)⟩

/-- A test that holds and one that does not. -/
theorem test_witness_BranchResult : State.reset.flags.c = false ∧ ¬State.reset.flags.z = true := by decide

theorem test_witness_PushResult : ({ State.reset with sp := 0x00 }).mem.wf = true := by decide

theorem test_witness_BrkEntersTheTrap : ({ State.reset with sp := 0x01 }).mem.wf = true := by decide

/-- The state BRK leaves is itself a state to return from. -/
theorem test_witness_TrapReturns : State.reset.mem.wf = true ∧ ∃ t, exec .brk State.reset = .next t :=
  ⟨by decide, exists_of_completes (by decide)⟩

/-- A state with no fatal, and one with a fatal. -/
theorem test_witness_ResetGivesTheTable :
    State.powerOn.fatal = none ∧ ({ State.reset with fatal := some (.readRange 0x10000) }).fatal ≠ none := by decide

/-- A host with a move, at the last address of memory and the first past it. -/
theorem test_witness_HostPortBounds :
    State.reset.fatal = none ∧ State.reset.budget = none ∧ State.reset.mem.wf = true ∧
      0xFFFF < 0x10000 ∧ 0x10000 ≤ 0x10000 := by decide

/-- Between calls with the byte order still to be set, with it set, and after a call; and inside a call. -/
theorem test_witness_HostMovesBetweenCalls :
    let set := { State.reset with orderSetup := .chosen }
    let inside := { State.reset with budget := some 0 }
    ready State.reset = true ∧ State.reset.budget = none ∧ State.reset.orderSetup = .awaited ∧
      ready set = true ∧ set.budget = none ∧ set.orderSetup ≠ .awaited ∧
      (State.reset.execute 0).2.budget = none ∧ inside.budget ≠ none := by decide

end Sys2Proof.Tests
end

section
/-! PROOF. What an instruction may write, as one table read along its rows (10_state.md R20 to R26, 20_memory.md R43): the state
after an instruction is the state before it with those parts taken from the state after. Every frame claim reads a column off. -/

namespace Sys2Proof.Machine

/-- The parts of the state some instruction writes, `pc` and the budget apart, which every step moves.
The stored B is not among them (R26, R132). -/
inductive Part where
  | a | x | y | sp | mem | c | z | i | d | v | n
  deriving DecidableEq

/-- The part a result goes to when it is written back to an operand form (R110). -/
def backPart (o : Operand) : Part := if o = .acc then .a else .mem

theorem backPart_eq_a {o : Operand} : backPart o = .a ↔ o = .acc := by simp [backPart]

theorem backPart_cases (o : Operand) : backPart o = .a ∨ backPart o = .mem := by
  simp [backPart, or_iff_not_imp_left]

/-- The parts a mnemonic's instructions may write, `back` being the one a result is written back to. -/
def rowOf (back : Part) : Mnemonic → List Part
  | .adc | .sbc => [.a, .c, .z, .v, .n]
  | .cmp | .cpx | .cpy => [.c, .z, .n]
  | .bit => [.z, .v, .n]
  | .lda | .and | .ora | .eor | .txa | .tya => [.a, .z, .n]
  | .ldx | .tax | .tsx | .inx | .dex => [.x, .z, .n]
  | .ldy | .tay | .iny | .dey => [.y, .z, .n]
  | .inc | .dec => [back, .z, .n]
  | .asl | .lsr | .rol | .ror => [back, .c, .z, .n]
  | .sta | .stx | .sty => [back]
  | .pha | .php | .jsr => [.sp, .mem]
  | .pla => [.a, .sp, .z, .n]
  | .plp | .rti => [.sp, .c, .z, .i, .d, .v, .n]
  | .brk => [.sp, .mem, .i]
  | .rts | .txs => [.sp]
  | .clc | .sec => [.c]
  | .cli | .sei => [.i]
  | .cld | .sed => [.d]
  | .clv => [.v]
  | .jmp | .bcc | .bcs | .beq | .bmi | .bne | .bpl | .bvc | .bvs | .nop => []

/-- The parts an instruction may write. -/
def writtenBy (i : Instr) : List Part := rowOf (backPart (operandOf i)) i.mnemonic

/-- `s` with the parts `W`, `pc` and the budget taken from `t`. -/
def State.takeFrom (s : State) (W : List Part) (t : State) : State :=
  { s with
    a := bif W.contains .a then t.a else s.a
    x := bif W.contains .x then t.x else s.x
    y := bif W.contains .y then t.y else s.y
    sp := bif W.contains .sp then t.sp else s.sp
    mem := bif W.contains .mem then t.mem else s.mem
    flags :=
      { c := bif W.contains .c then t.flags.c else s.flags.c
        z := bif W.contains .z then t.flags.z else s.flags.z
        i := bif W.contains .i then t.flags.i else s.flags.i
        d := bif W.contains .d then t.flags.d else s.flags.d
        b := s.flags.b
        v := bif W.contains .v then t.flags.v else s.flags.v
        n := bif W.contains .n then t.flags.n else s.flags.n }
    pc := t.pc
    budget := t.budget }

/-- The outcome's next state, if it has one, differs from `s` in the parts `W`, `pc` and the budget only. -/
def WritesOnly (W : List Part) (s : State) (o : Outcome) : Prop :=
  ∀ t, o = .next t → t = s.takeFrom W t

/-! ## `takeFrom` and the operations at either end of a step -/

theorem takeFrom_fetched (s u : State) (W : List Part) (i : Instr) :
    (s.fetched i).takeFrom W u = s.takeFrom W u := rfl

theorem takeFrom_charge (s u : State) (W : List Part) (n : Nat) :
    s.takeFrom W (u.charge n) = (s.takeFrom W u).charge n := rfl

/-- A part taken later stands, and a part never taken stays: two changes of the parts `W` are one. -/
theorem takeFrom_takeFrom (s t u : State) (W : List Part) :
    (s.takeFrom W t).takeFrom W u = s.takeFrom W u := by
  have later {α : Type} (p : Bool) (x y z : α) : (bif p then x else bif p then y else z) = bif p then x else z := by
    cases p <;> rfl
  simp only [State.takeFrom, later]

/-- Only the accumulator form resolves to the accumulator. -/
theorem resolve_place_ne_acc (s : State) {o : Operand} (h : o ≠ .acc) : (s.resolve o).place ≠ .acc := by
  cases o <;> simp_all [State.resolve, State.indexed]

@[simp] theorem writePlace_flags (u : State) (v : Byte) (p : Place) : (u.writePlace v p).flags = u.flags := by
  cases p with
  | value _ => rfl
  | acc => rfl
  | mem ea => cases ea <;> rfl

/-- A write back changes the operand form's part alone. -/
theorem writePlace_eq_takeFrom (s u : State) (o : Operand) (v : Byte) (W : List Part) :
    u.writePlace v (s.resolve o).place =
      u.takeFrom (backPart o :: W) (u.writePlace v (s.resolve o).place) := by
  by_cases ho : o = .acc
  · subst ho
    simp [State.takeFrom, State.resolve, State.writePlace, backPart]
  · have hne := resolve_place_ne_acc s ho
    rw [backPart, if_neg ho]
    generalize (s.resolve o).place = p at hne
    cases p with
    | value _ => simp [State.takeFrom, State.writePlace]
    | acc => exact absurd rfl hne
    | mem ea => cases ea <;> simp [State.takeFrom, State.writePlace, State.writeAt, State.write]

/-! ## The frame of each shape of step -/

section
variable {W : List Part} {i : Instr} {o : Operand} {s : State}

theorem impliedOp_writesOnly {apply : State → State} (h : ∀ u, apply u = u.takeFrom W (apply u)) :
    WritesOnly W s (impliedOp i apply s) := by
  intro t ht
  rw [impliedOp_next.1 ht, takeFrom_charge, ← takeFrom_fetched s _ W i, ← h]

theorem readOp_writesOnly {apply : Byte → State → State} (h : ∀ m u, apply m u = u.takeFrom W (apply m u)) :
    WritesOnly W s (readOp i o apply s) := by
  intro t ht
  obtain ⟨m, -, rfl⟩ := readOp_next.1 ht
  rw [takeFrom_charge, ← takeFrom_fetched s _ W i, ← h]

theorem logicOp_writesOnly {alu : Byte → Byte → Byte} : WritesOnly [.a, .z, .n] s (logicOp i o alu s) :=
  readOp_writesOnly fun _ _ => rfl

theorem storeOp_writesOnly {v : Byte} : WritesOnly [backPart o] s (storeOp i o v s) := by
  intro t ht
  rw [storeOp_next.1 ht, takeFrom_charge, ← takeFrom_fetched s _ _ i, ← writePlace_eq_takeFrom]

theorem modifyOp_writesOnly {result : Byte → Byte} {flags : Byte → Flags → Flags}
    (h : ∀ (p : Part) (v : Byte) (u : State),
      { u with flags := flags v u.flags } = u.takeFrom (p :: W) { u with flags := flags v u.flags }) :
    WritesOnly (backPart o :: W) s (modifyOp i o result flags s) := by
  intro t ht
  obtain ⟨v, -, rfl⟩ := modifyOp_next.1 ht
  have hback := writePlace_eq_takeFrom s (s.fetched i) o (result v) W
  have hflags := h (backPart o) v ((s.fetched i).writePlace (result v) (s.resolve o).place)
  rw [writePlace_flags, State.fetched_flags] at hflags
  rw [takeFrom_charge, ← takeFrom_fetched s _ _ i, ← takeFrom_takeFrom (s.fetched i), ← hback, ← hflags]

theorem shiftOp_writesOnly {alu : Byte → Bool → ShiftResult} :
    WritesOnly [backPart o, .c, .z, .n] s (shiftOp i o alu s) :=
  modifyOp_writesOnly fun p _ _ => by cases p <;> rfl

theorem branch_writesOnly {off : Byte} {taken : Bool} : WritesOnly [] s (branch i off taken s) := by
  intro t ht
  rw [branch_next.1 ht]
  cases taken <;> rfl

theorem decimalCheck_writesOnly {perform : Outcome} (h : WritesOnly W s perform) :
    WritesOnly W s (decimalCheck i s perform) := by
  intro t ht
  rcases decimalCheck_cases i s perform with ⟨-, -, hr⟩ | ⟨-, hp⟩
  · rw [hr] at ht; cases ht
  · exact h t (hp ▸ ht)

theorem opJmp_writesOnly : WritesOnly [] s (opJmp i s) := by
  intro t ht
  unfold opJmp at ht
  split at ht
  · obtain ⟨_, -, rfl⟩ := opJmpInd_next.1 ht
    rfl
  · rw [impliedOp_next.1 ht]
    rfl

end

/-! ## The frame of every instruction -/

/-- An instruction changes the parts of its row, `pc` and the budget only. -/
theorem exec_writesOnly (i : Instr) (s : State) : WritesOnly (writtenBy i) s (exec i s) := by
  rw [exec_eq_performBy, performBy, writtenBy]
  cases i.mnemonic
  case adc =>
    refine decimalCheck_writesOnly (readOp_writesOnly fun m u => ?_)
    unfold adcApply
    split <;> rfl
  case sbc => exact decimalCheck_writesOnly (readOp_writesOnly fun _ _ => rfl)
  case cmp | cpx | cpy | lda | ldx | ldy | bit => exact readOp_writesOnly fun _ _ => rfl
  case and | ora | eor => exact logicOp_writesOnly
  case sta | stx | sty => exact storeOp_writesOnly
  case inc | dec =>
    refine modifyOp_writesOnly fun p _ _ => ?_
    cases p <;> rfl
  case asl | lsr | rol | ror => exact shiftOp_writesOnly
  case bcc | bcs | beq | bmi | bne | bpl | bvc | bvs => exact branch_writesOnly
  case jmp => exact opJmp_writesOnly
  all_goals exact impliedOp_writesOnly fun _ => rfl

/-- The same for the next state: every field a row does not list is as it was. -/
theorem exec_next_eq {i : Instr} {s t : State} (h : exec i s = .next t) : t = s.takeFrom (writtenBy i) t :=
  exec_writesOnly i s t h

end Sys2Proof.Machine
end

section
/-! PROOF. The same table read along its columns: the writers of each register and flag (10_state.md R20 to R26). -/

namespace Sys2Proof.Machine

/-- The two states hold the same value in a part. -/
def State.agree (s t : State) : Part → Prop
  | .a => t.a = s.a
  | .x => t.x = s.x
  | .y => t.y = s.y
  | .sp => t.sp = s.sp
  | .mem => t.mem = s.mem
  | .c => t.flags.c = s.flags.c
  | .z => t.flags.z = s.flags.z
  | .i => t.flags.i = s.flags.i
  | .d => t.flags.d = s.flags.d
  | .v => t.flags.v = s.flags.v
  | .n => t.flags.n = s.flags.n

/-- An instruction leaves every part its row does not list. -/
theorem exec_agree {i : Instr} {s t : State} (h : exec i s = .next t) {p : Part} (hp : p ∉ writtenBy i) :
    s.agree t p := by
  rw [exec_next_eq h]
  cases p <;> simp [State.agree, State.takeFrom, hp]

/-- The mnemonics whose rows list a part, the accumulator forms of the shifts apart. -/
def writersOf : Part → List Mnemonic
  | .a => [.lda, .adc, .sbc, .and, .ora, .eor, .pla, .txa, .tya]
  | .x => [.ldx, .tax, .tsx, .inx, .dex]
  | .y => [.ldy, .tay, .iny, .dey]
  | .sp => [.txs, .pha, .php, .pla, .plp, .jsr, .rts, .brk, .rti]
  | .mem => Claims.memoryWriters
  | .c => [.adc, .sbc, .cmp, .cpx, .cpy, .asl, .lsr, .rol, .ror, .clc, .sec, .plp, .rti]
  | .z | .n => [.lda, .ldx, .ldy, .tax, .tay, .txa, .tya, .tsx, .inc, .dec, .inx, .iny, .dex, .dey,
      .adc, .sbc, .and, .ora, .eor, .bit, .cmp, .cpx, .cpy, .asl, .lsr, .rol, .ror, .pla, .plp, .rti]
  | .i => [.sei, .cli, .brk, .plp, .rti]
  | .d => [.sed, .cld, .plp, .rti]
  | .v => [.adc, .sbc, .bit, .clv, .plp, .rti]

/-- The mnemonics that write a result back to their operand form (R110). -/
def backWriters : List Mnemonic := [.sta, .stx, .sty, .inc, .dec, .asl, .lsr, .rol, .ror]

/-- A row that lists a part is in the part's column, or writes its result back there. -/
theorem mem_writersOf_of_mem_rowOf {back : Part} (hb : back = .a ∨ back = .mem) (m : Mnemonic) :
    ∀ p ∈ rowOf back m, m ∈ writersOf p ∨ p = .a ∧ back = .a ∧ m ∈ backWriters := by
  rcases hb with rfl | rfl <;> cases m <;> decide

/-- An instruction that writes its result back to the accumulator has the accumulator mode. -/
theorem mode_eq_acc {i : Instr} (h : i.mnemonic ∈ backWriters) (ho : operandOf i = .acc) : i.entry.mode = .acc := by
  revert h ho
  cases i <;> simp [backWriters, Instr.mnemonic, operandOf, Instr.entry]

theorem mem_writersOf {i : Instr} {p : Part} (hp : p ∈ writtenBy i) :
    i.mnemonic ∈ writersOf p ∨ p = .a ∧ i.entry.mode = .acc :=
  (mem_writersOf_of_mem_rowOf (backPart_cases _) _ p hp).imp_right fun ⟨ha, hback, hm⟩ =>
    ⟨ha, mode_eq_acc hm (backPart_eq_a.1 hback)⟩

/-- A part that changed, changed by one of its writers. -/
theorem mem_writersOf_of_changed {i : Instr} {s t : State} (h : exec i s = .next t) (p : Part)
    (hne : ¬ s.agree t p) : i.mnemonic ∈ writersOf p ∨ p = .a ∧ i.entry.mode = .acc := by
  by_contra hw
  exact hne (exec_agree h fun hp => hw (mem_writersOf hp))

/-- The same for any part but the accumulator. -/
theorem mem_writersOf_of_changed_of_ne {i : Instr} {s t : State} (h : exec i s = .next t) {p : Part}
    (ha : p ≠ .a) (hne : ¬ s.agree t p) : i.mnemonic ∈ writersOf p :=
  (mem_writersOf_of_changed h p hne).resolve_right fun hp => ha hp.1

end Sys2Proof.Machine

open Sys2Proof Sys2Proof.Machine

/-- Settles O25: each register's column of the table of writers. -/
theorem registersChangeOnlyByTheirWriters : Obligations.RegistersChangeOnlyByTheirWriters := by
  intro i s t h
  refine ⟨fun hne => ?_, mem_writersOf_of_changed_of_ne h (p := .x) nofun,
    mem_writersOf_of_changed_of_ne h (p := .y) nofun, mem_writersOf_of_changed_of_ne h (p := .sp) nofun⟩
  exact (mem_writersOf_of_changed h .a hne).imp_right And.right

/-- Settles O26: each flag's column of the table of writers, which lists the stored B nowhere. -/
theorem flagsChangeOnlyByTheirWriters : Obligations.FlagsChangeOnlyByTheirWriters := by
  intro i s t h
  refine ⟨mem_writersOf_of_changed_of_ne h (p := .c) nofun, ?_,
    mem_writersOf_of_changed_of_ne h (p := .i) nofun, mem_writersOf_of_changed_of_ne h (p := .d) nofun,
    mem_writersOf_of_changed_of_ne h (p := .v) nofun, congrArg (·.flags.b) (exec_next_eq h)⟩
  rintro (hz | hn)
  · exact mem_writersOf_of_changed_of_ne h (p := .z) nofun hz
  · exact mem_writersOf_of_changed_of_ne h (p := .n) nofun hn
end

section
/-! PROOF. The session invariant (10_state.md R30, R31, R34, 20_memory.md R41, 40_execute_loop.md R83). Memory stays canonical because
each of its writers stores at addresses of 16 bits; the session's other fields no instruction writes at all. -/

namespace Sys2Proof.Machine

section
variable {i : Instr} {s t : State} (hs : s.mem.wf = true)
include hs

theorem storeOp_wf {o : Operand} {v : Byte} (h : storeOp i o v s = .next t) : t.mem.wf = true := by
  rw [storeOp_next.1 h]
  exact State.wf_writePlace v _ hs

theorem modifyOp_wf {o : Operand} {result : Byte → Byte} {flags : Byte → Flags → Flags}
    (h : modifyOp i o result flags s = .next t) : t.mem.wf = true := by
  obtain ⟨v, -, rfl⟩ := modifyOp_next.1 h
  exact State.wf_writePlace (result v) _ hs

theorem shiftOp_wf {o : Operand} {alu : Byte → Bool → ShiftResult} (h : shiftOp i o alu s = .next t) :
    t.mem.wf = true := modifyOp_wf hs h

theorem impliedOp_wf {apply : State → State} (h : impliedOp i apply s = .next t)
    (ha : ∀ u : State, u.mem.wf = true → (apply u).mem.wf = true) : t.mem.wf = true := by
  rw [impliedOp_next.1 h]
  exact ha (s.fetched i) hs

/-- Every instruction keeps memory canonical (R41). -/
theorem exec_wf (h : exec i s = .next t) : t.mem.wf = true := by
  by_cases hmem : Part.mem ∈ writtenBy i
  · have hw : i.mnemonic ∈ Claims.memoryWriters := (mem_writersOf hmem).resolve_right nofun
    rw [exec_eq_performBy, performBy] at h
    cases hm : i.mnemonic <;> simp only [hm] at h
    case sta | stx | sty => exact storeOp_wf hs h
    case inc | dec => exact modifyOp_wf hs h
    case asl | lsr | rol | ror => exact shiftOp_wf hs h
    case pha | php => exact impliedOp_wf hs h fun _ hu => State.wf_push _ hu
    case jsr => exact impliedOp_wf hs h fun _ hu => State.wf_pushWord _ hu
    case brk => exact impliedOp_wf hs h fun _ hu => State.wf_takeTrap _ hu
    all_goals exact absurd (hm ▸ hw) (by decide)
  · have hkept : t.mem = s.mem := exec_agree h hmem
    rw [hkept]
    exact hs

end

/-- What no instruction writes. -/
theorem exec_session {i : Instr} {s t : State} (h : exec i s = .next t) :
    t.resetDone = s.resetDone ∧ t.fatal = s.fatal ∧ t.refused = s.refused ∧
      t.illegalCount = s.illegalCount ∧ t.events = s.events ∧ t.orderSetup = s.orderSetup := by
  rw [exec_next_eq h]
  exact ⟨rfl, rfl, rfl, rfl, rfl, rfl⟩

theorem exec_inv {i : Instr} {s t : State} (hs : s.Inv) (h : exec i s = .next t) : t.Inv := by
  obtain ⟨hwf, hsession⟩ := hs
  obtain ⟨hreset, hfatal, hrefused, hcount, hevents, -⟩ := exec_session h
  refine ⟨exec_wf hwf h, ?_⟩
  rwa [hreset, hfatal, hrefused, hcount, hevents]

/-- An unrecognized opcode that is not the 10th counts once and emits one event (R83). -/
theorem countUnrecognized_inv {s : State} (hs : s.Inv) (hc : s.illegalCount + 1 ≠ illegalThreshold) :
    s.countUnrecognized.Inv := by
  obtain ⟨hwf, hreset, hfatal, hrefused, hlt, hevents⟩ := hs
  refine ⟨hwf, hreset, hfatal, hrefused, ?_, ?_⟩
  · show s.illegalCount + 1 < illegalThreshold
    omega
  · show (s.events ++ [_]).length = s.illegalCount + 1
    rw [List.length_append, hevents, List.length_singleton]

end Sys2Proof.Machine

open Sys2Proof Sys2Proof.Machine

/-- Settles O16: a step counts an unrecognized opcode or runs an instruction, and either keeps the invariant. -/
theorem stepKeepsTheInvariant : Obligations.StepKeepsTheInvariant := by
  intro s t hs h
  obtain ⟨-, ⟨-, hc, rfl⟩ | ⟨i, -, -, hexec⟩⟩ := step_next h
  · exact countUnrecognized_inv hs hc
  · exact exec_inv hs hexec

/-- Settles O17: the reset state's memory is empty, its latches clear and nothing has been counted (R36). -/
theorem resetMeetsTheInvariant : Obligations.ResetMeetsTheInvariant := by
  exact ⟨rfl, rfl, rfl, rfl, by decide, rfl⟩
end

section
/-! PROOF. Instructions run on other flags. A change `g` of the flags that an instruction neither reads nor undoes may be made before
the instruction or after it; for each shape of step that is a fact about the shape's own reading and writing of flags. The stored B
(10_state.md R26) is such a change for every instruction. -/

namespace Sys2Proof.Machine

open Sys2Proof.Claims

/-- The state with its flags changed. -/
def mapFlags (g : Flags → Flags) (s : State) : State := { s with flags := g s.flags }

/-! ## Operands do not read flags -/

theorem resolve_mapFlags (g : Flags → Flags) (s : State) (o : Operand) :
    (mapFlags g s).resolve o = s.resolve o := by
  cases o <;> rfl

theorem crosses_mapFlags (g : Flags → Flags) (s : State) (o : Operand) :
    (mapFlags g s).crosses o = s.crosses o := by
  rw [State.crosses, State.crosses, resolve_mapFlags]

theorem operand_mapFlags (g : Flags → Flags) (s : State) (o : Operand) :
    (mapFlags g s).operand o = s.operand o := by
  rw [State.operand, State.operand, resolve_mapFlags]
  rcases (s.resolve o).place with _ | _ | ⟨_ | _⟩ <;> rfl

theorem writePlace_mapFlags (g : Flags → Flags) (s : State) (v : Byte) (p : Place) :
    (mapFlags g s).writePlace v p = mapFlags g (s.writePlace v p) := by
  rcases p with _ | _ | ⟨_ | _⟩ <;> rfl

/-! ## The shapes of a step on changed flags -/

section
variable {g : Flags → Flags} {i : Instr} {o : Operand} {s : State}

/-- An implied instruction that turns the change `g` into the change `k`. -/
theorem impliedOp_mapFlags {k : Flags → Flags} {apply : State → State}
    (h : ∀ u, apply (mapFlags g u) = mapFlags k (apply u)) :
    impliedOp i apply (mapFlags g s) = onNext (mapFlags k) (impliedOp i apply s) := by
  show (apply (mapFlags g (s.fetched i))).finish _ = _
  rw [h]
  rfl

theorem readOp_mapFlags {apply : Byte → State → State}
    (h : ∀ m u, apply m (mapFlags g u) = mapFlags g (apply m u)) :
    readOp i o apply (mapFlags g s) = onNext (mapFlags g) (readOp i o apply s) := by
  rw [readOp, readOp, operand_mapFlags, crosses_mapFlags]
  cases s.operand o with
  | error f => rfl
  | ok m =>
    show (apply m (mapFlags g (s.fetched i))).finish _ = _
    rw [h]
    rfl

theorem logicOp_mapFlags {alu : Byte → Byte → Byte} (h : ∀ f r, (g f).setZN r = g (f.setZN r)) :
    logicOp i o alu (mapFlags g s) = onNext (mapFlags g) (logicOp i o alu s) :=
  readOp_mapFlags fun m u => by simp only [mapFlags, State.setZN, h]

theorem storeOp_mapFlags {v : Byte} :
    storeOp i o v (mapFlags g s) = onNext (mapFlags g) (storeOp i o v s) := by
  rw [storeOp, storeOp, resolve_mapFlags, crosses_mapFlags]
  show ((mapFlags g (s.fetched i)).writePlace _ _).finish _ = _
  rw [writePlace_mapFlags]
  rfl

theorem modifyOp_mapFlags {result : Byte → Byte} {flags : Byte → Flags → Flags}
    (h : ∀ v f, flags v (g f) = g (flags v f)) :
    modifyOp i o result flags (mapFlags g s) = onNext (mapFlags g) (modifyOp i o result flags s) := by
  rw [modifyOp, modifyOp, operand_mapFlags, resolve_mapFlags, crosses_mapFlags]
  cases s.operand o with
  | error f => rfl
  | ok v =>
    show State.finish { (mapFlags g (s.fetched i)).writePlace _ _ with
      flags := flags v ((mapFlags g (s.fetched i)).writePlace _ _).flags } _ = _
    rw [writePlace_mapFlags]
    simp only [mapFlags, h]
    rfl

/-- A shift reads C and writes C, Z and N. -/
theorem shiftOp_mapFlags {alu : Byte → Bool → ShiftResult} (hc : (g s.flags).c = s.flags.c)
    (h : ∀ f c r, Flags.setZN { g f with c := c } r = g (Flags.setZN { f with c := c } r)) :
    shiftOp i o alu (mapFlags g s) = onNext (mapFlags g) (shiftOp i o alu s) := by
  rw [shiftOp, shiftOp, show (mapFlags g s).flags.c = s.flags.c from hc]
  exact modifyOp_mapFlags fun _ f => h f _ _

theorem branch_mapFlags {off : Byte} {taken : Bool} :
    branch i off taken (mapFlags g s) = onNext (mapFlags g) (branch i off taken s) := by
  cases taken <;> rfl

theorem opJmp_mapFlags : opJmp i (mapFlags g s) = onNext (mapFlags g) (opJmp i s) := by
  unfold opJmp
  split
  · show opJmpInd i _ (mapFlags g s) = onNext _ (opJmpInd i _ s)
    rw [opJmpInd, opJmpInd, show (mapFlags g s).readWord = s.readWord from rfl]
    cases s.readWord (targetOf i) <;> rfl
  · exact impliedOp_mapFlags fun _ => rfl

/-- The decimal check reads D alone. -/
theorem decimalCheck_mapFlags {perform perform' : Outcome} (hd : (g s.flags).d = s.flags.d)
    (h : perform' = onNext (mapFlags g) perform) :
    decimalCheck i (mapFlags g s) perform' = onNext (mapFlags g) (decimalCheck i s perform) := by
  rw [decimalCheck, decimalCheck, show (mapFlags g s).flags.d = s.flags.d from hd, h]
  show (if (s.flags.d && s.params.decimal == .refuse) = true then _ else _) = _
  split <;> rfl

end

/-! ## The stored B -/

/-- Flags changed to hold the given value of the stored B. -/
def setB (v : Bool) (f : Flags) : Flags := { f with b := v }

theorem withB_eq_mapFlags (v : Bool) : withB v = mapFlags (setB v) := rfl

/-- No instruction reads or writes the stored B (R26, R132). -/
theorem exec_setB (i : Instr) (s : State) (v : Bool) :
    exec i (mapFlags (setB v) s) = onNext (mapFlags (setB v)) (exec i s) := by
  rw [exec_eq_performBy, exec_eq_performBy, performBy, performBy]
  cases i.mnemonic
  case adc =>
    refine decimalCheck_mapFlags rfl (readOp_mapFlags fun m u => ?_)
    rw [adcApply, adcApply, show (mapFlags (setB v) u).decimalOn = u.decimalOn from rfl]
    split <;> rfl
  case sbc => exact decimalCheck_mapFlags rfl (readOp_mapFlags fun _ _ => rfl)
  case cmp | cpx | cpy | lda | ldx | ldy | bit => exact readOp_mapFlags fun _ _ => rfl
  case and | ora | eor => exact logicOp_mapFlags fun _ _ => rfl
  case sta | stx | sty => exact storeOp_mapFlags
  case inc | dec => exact modifyOp_mapFlags fun _ _ => rfl
  case asl | lsr | rol | ror => exact shiftOp_mapFlags rfl fun _ _ _ => rfl
  case bcc | bcs | beq | bmi | bne | bpl | bvc | bvs => exact branch_mapFlags
  case jmp => exact opJmp_mapFlags
  all_goals exact impliedOp_mapFlags fun _ => rfl

end Sys2Proof.Machine

open Sys2Proof Sys2Proof.Machine

/-- Settles O23: the change of B passes through every shape of step. -/
theorem storedBreakIsNeverRead : Obligations.StoredBreakIsNeverRead := by
  intro i s v
  rw [withB_eq_mapFlags]
  exact exec_setB i s v
end

section
/-! PROOF. The packed status byte (10_state.md R27, R28). -/

namespace Sys2Proof.Machine

/-- The packed byte as a number: no sum of the eight bits leaves the byte. -/
theorem toNat_packForPush (f : Flags) : f.packForPush.toNat =
    128 * f.n.toNat + 64 * f.v.toNat + 32 + 16 + 8 * f.d.toNat + 4 * f.i.toNat + 2 * f.z.toNat + f.c.toNat := by
  have := Bool.toNat_le f.n
  have := Bool.toNat_le f.v
  have := Bool.toNat_le f.d
  have := Bool.toNat_le f.i
  have := Bool.toNat_le f.z
  have := Bool.toNat_le f.c
  rw [Flags.packForPush, BitVec.toNat_ofNat]
  omega

/-- Each flag is in the packed byte at its own bit. -/
theorem packForPush_bits (f : Flags) :
    f.packForPush.getLsbD 7 = f.n ∧ f.packForPush.getLsbD 6 = f.v ∧ f.packForPush.getLsbD 3 = f.d ∧
      f.packForPush.getLsbD 2 = f.i ∧ f.packForPush.getLsbD 1 = f.z ∧ f.packForPush.getLsbD 0 = f.c := by
  obtain ⟨c, z, i, d, b, v, n⟩ := f
  revert c z i d b v n
  decide

/-- Unpacking a packed byte gives its six flags back and keeps the B it had. -/
theorem unpack_packForPush (f g : Flags) : g.unpack f.packForPush = { f with b := g.b } := by
  obtain ⟨hn, hv, hd, hi, hz, hc⟩ := packForPush_bits f
  rw [Flags.unpack, hn, hv, hd, hi, hz, hc]

end Sys2Proof.Machine

open Sys2Proof Sys2Proof.Machine

/-- Settles O30: the byte's value is its bits' sum, and unpacking reads each flag at its own bit. -/
theorem packedStatusBits : Obligations.PackedStatusBits := by
  intro f b
  exact ⟨toNat_packForPush f, unpack_packForPush f, rfl, rfl, rfl, rfl, rfl, rfl, rfl⟩
end

section
/-! PROOF. Reset and the host's moves between execute calls (10_state.md R36, R37, 20_memory.md R45, 70_reset_and_hazards.md R240,
R245). That the byte order stays closed after an execute call rests on the frame of a step: no step and no stop reopens it. -/

namespace Sys2Proof.Machine.State

/-! ## Reset -/

theorem resetOp_of_no_fatal {s : State} (h : s.fatal = none) : s.resetOp =
    { s with
      pc := 0xFFFC, sp := 0xFF, a := s.params.init.a, x := s.params.init.x, y := s.params.init.y,
      flags := { c := s.params.init.c, z := s.params.init.z, i := true, d := false, b := s.params.init.b,
                 v := s.params.init.v, n := s.params.init.n },
      mem := [], orderSetup := s.orderSetup.afterReset, resetDone := true, budget := none } := by
  rw [resetOp, h]

theorem resetOp_of_fatal {s : State} (h : s.fatal ≠ none) : s.resetOp = s := by
  obtain ⟨f, hf⟩ := Option.ne_none_iff_exists'.1 h
  rw [resetOp, hf]

/-- A reset reopens the byte order of a session that ran, and leaves it as it was otherwise (R245). -/
theorem afterReset_eq (o : OrderSetup) : o.afterReset = if o = .locked then .awaited else o := by
  cases o <;> rfl

/-! ## Registers -/

theorem toNat_flagOf (k : Nat) : (flagOf k).toNat = k % 2 := by
  rcases Nat.mod_two_eq_zero_or_one k with h | h <;> simp [flagOf, h]

/-- The number of values a register or flag holds (R37; a flag's is the model's reading, log 18). -/
def regModulus : HostReg → Nat
  | .pc => 65536
  | .a | .x | .y | .sp => 256
  | _ => 2

theorem regValue_setReg_same (s : State) (r : HostReg) (k : Nat) :
    (s.setReg k r).regValue r = k % regModulus r := by
  cases r
  case a | x | y | sp | pc => exact BitVec.toNat_ofNat ..
  all_goals exact toNat_flagOf k

theorem regValue_setReg_of_ne {q r : HostReg} (h : q ≠ r) (s : State) (k : Nat) :
    (s.setReg k r).regValue q = s.regValue q := by
  cases r <;> cases q <;> try rfl
  all_goals exact absurd rfl h

/-- A register write reaches nothing but the registers and the flags. -/
theorem setReg_eq (s : State) (r : HostReg) (k : Nat) : s.setReg k r =
    { s with a := (s.setReg k r).a, x := (s.setReg k r).x, y := (s.setReg k r).y,
             sp := (s.setReg k r).sp, pc := (s.setReg k r).pc, flags := (s.setReg k r).flags } := by
  cases r <;> rfl

theorem hostMayAct_setReg (s : State) (r : HostReg) (k : Nat) : (s.setReg k r).hostMayAct = s.hostMayAct := by
  rw [setReg_eq]
  rfl

end Sys2Proof.Machine.State

namespace Sys2Proof.Machine

/-! ## The byte order after an execute call -/

/-- No step changes whether the host may set the byte order. -/
theorem step_orderSetup {s t : State} (h : step s = .next t) : t.orderSetup = s.orderSetup := by
  obtain ⟨-, ⟨-, -, rfl⟩ | ⟨i, -, -, hexec⟩⟩ := step_next h
  · rfl
  · obtain ⟨-, -, -, -, -, horder⟩ := exec_session hexec
    exact horder

theorem executeLoop_orderSetup (k : Nat) (s : State) : (State.executeLoop k s).2.orderSetup = s.orderSetup := by
  induction k generalizing s with
  | zero => rfl
  | succ k ih =>
    rw [State.executeLoop]
    split
    · split
      · next t ht => rw [ih, step_orderSetup ht]
      · next f _ => exact afterFatal_orderSetup s f
      · next r _ => exact afterRefusal_orderSetup s r
    · rfl

/-- A call that starts leaves the byte order no longer to be set. -/
theorem execute_orderSetup {s : State} (h : s.stopped = none) (n : Nat) :
    (s.execute n).2.orderSetup = .locked := by
  rw [execute_of_ready h, executeLoop_orderSetup]

/-! ## The host's moves -/

theorem hostConfigure_of_awaited {s : State} (hact : s.hostMayAct = true) (ho : s.orderSetup = .awaited)
    (native : WordOrder) (m : EndianMode) :
    s.hostConfigure native m = some { s with wordOrder := m.resolve native, orderSetup := .chosen } := by
  simp [State.hostConfigure, hact, ho]

theorem hostConfigure_of_not_awaited {s : State} (ho : s.orderSetup ≠ .awaited) (native : WordOrder)
    (m : EndianMode) : s.hostConfigure native m = none := by
  simp [State.hostConfigure, ho]

/-- While a call runs the host has no move (R245). -/
theorem hostMayAct_of_budget {s : State} (h : s.budget ≠ none) : s.hostMayAct = false := by
  simp [State.hostMayAct, h]

/-- A host without a move is answered `none` whatever it asks for. -/
theorem no_host_move {s : State} (h : s.hostMayAct = false) :
    s.hostReset = none ∧ (∀ n, s.hostExecute n = none) ∧
      (∀ n v, s.hostWrite n v = none) ∧ (∀ n, s.hostRead n = none) ∧
      (∀ q, s.hostReadReg q = none) ∧ (∀ q k, s.hostWriteReg q k = none) ∧
      ∀ native m, s.hostConfigure native m = none := by
  simp [State.hostReset, State.hostExecute, State.hostWrite, State.hostRead, State.hostReadReg,
    State.hostWriteReg, State.hostConfigure, h]

section
variable {s : State} (hact : s.hostMayAct = true)
include hact

theorem hostReset_of_mayAct : s.hostReset = some s.resetOp := by rw [State.hostReset, if_pos hact]

theorem hostExecute_of_mayAct (n : Nat) : s.hostExecute n = some (s.execute n) := by
  rw [State.hostExecute, if_pos hact]

theorem hostReadReg_of_mayAct (r : HostReg) : s.hostReadReg r = some (s.regValue r) := by
  rw [State.hostReadReg, if_pos hact]

theorem hostWriteReg_of_mayAct (r : HostReg) (k : Nat) : s.hostWriteReg r k = some (s.setReg k r) := by
  rw [State.hostWriteReg, if_pos hact]

/-- A register reads, after a write of any register, as the written state holds it. -/
theorem hostReadReg_setReg (q r : HostReg) (k : Nat) :
    (s.setReg k r).hostReadReg q = some ((s.setReg k r).regValue q) :=
  hostReadReg_of_mayAct ((s.hostMayAct_setReg r k).trans hact) q

end

end Sys2Proof.Machine

open Sys2Proof Sys2Proof.Machine

/-- Settles O58: the reset's own table, with memory empty. -/
theorem resetGivesTheTable : Obligations.ResetGivesTheTable := by
  intro s
  refine ⟨fun hf => ?_, State.resetOp_of_fatal⟩
  rw [State.resetOp_of_no_fatal hf, State.afterReset_eq]
  exact ⟨rfl, fun _ => rfl⟩

/-- Settles O60: the host's moves one by one where it may act, and none of them where it may not. -/
theorem hostMovesBetweenCalls : Obligations.HostMovesBetweenCalls := by
  intro s
  refine ⟨fun hfatal hbudget => ?_, fun hbudget => no_host_move (hostMayAct_of_budget hbudget)⟩
  have hact : s.hostMayAct = true := hostMayAct_iff.2 ⟨hbudget, hfatal⟩
  refine ⟨hostReset_of_mayAct hact, hostExecute_of_mayAct hact, fun r => ?_, fun r k => ?_,
    fun native m => ⟨fun ho => ?_, fun ho => hostConfigure_of_not_awaited ho native m, fun hr hd n => ?_⟩⟩
  · rw [hostReadReg_of_mayAct hact]
    cases r <;> rfl
  · refine ⟨s.setReg k r, hostWriteReg_of_mayAct hact r k, ?_, fun q hq => ?_, s.setReg_eq r k⟩
    · rw [hostReadReg_setReg hact, State.regValue_setReg_same]
      cases r <;> rfl
    · rw [hostReadReg_setReg hact, State.regValue_setReg_of_ne hq, hostReadReg_of_mayAct hact]
  · rw [hostConfigure_of_awaited hact ho]
    cases m <;> rfl
  · have hlocked := execute_orderSetup (stopped_eq_none.2 ⟨hfatal, hr, hd⟩) n
    exact hostConfigure_of_not_awaited (by rw [hlocked]; decide) native m
end

section
/-! PROOF. The frame of memory (20_memory.md R43): the memory column of the table of writers, and the accumulator forms, which write
their result back to A. -/

namespace Sys2Proof.Machine

/-- The accumulator form of a shift writes its result back to A, not to memory (R110). -/
theorem mem_not_mem_writtenBy_of_acc {i : Instr} (h : i.entry.mode = .acc) : Part.mem ∉ writtenBy i := by
  revert h
  cases i
  case aslAcc | lsrAcc | rolAcc | rorAcc => exact fun _ => by decide
  all_goals exact nofun

/-- An instruction outside the memory column, or of the accumulator mode, leaves memory as it was. -/
theorem exec_mem_eq {i : Instr} {s t : State} (h : exec i s = .next t)
    (hi : i.mnemonic ∉ Claims.memoryWriters ∨ i.entry.mode = .acc) : t.mem = s.mem := by
  refine exec_agree h (p := .mem) fun hmem => ?_
  rcases hi with hm | hacc
  · exact hm ((mem_writersOf hmem).resolve_right nofun)
  · exact mem_not_mem_writtenBy_of_acc hacc hmem

end Sys2Proof.Machine

open Sys2Proof Sys2Proof.Machine

/-- Settles O24: the memory column of the table of writers. -/
theorem onlyListedInstructionsWriteMemory : Obligations.OnlyListedInstructionsWriteMemory := by
  intro i s t h hi a
  rw [State.read, State.read, exec_mem_eq h hi]
end

section
/-! PROOF. Bytes, words, the stack and the host's port (20_memory.md): each is a read of canonical memory after a write. -/

namespace Sys2Proof.Machine

/-! ## Bytes -/

namespace State

theorem read_write_same {s : State} (hs : s.mem.wf = true) (a : Word) (v : Byte) : (s.write a v).read a = v := by
  rw [read_write hs, if_pos rfl]

theorem read_write_of_ne {s : State} (hs : s.mem.wf = true) {a c : Word} (h : c ≠ a) (v : Byte) :
    (s.write a v).read c = s.read c := by
  rw [read_write hs, if_neg h.symm]

/-! ## Words -/

/-- Writing bytes changes nothing but memory. -/
theorem writeBytes_eq (s : State) (a : Word) (vs : List Byte) :
    s.writeBytes a vs = { s with mem := (s.writeBytes a vs).mem } := by
  induction vs generalizing s a with
  | nil => rfl
  | cons v vs ih => exact ih (s.write a v) (a + 1)

theorem writeBytes_params (s : State) (a : Word) (vs : List Byte) : (s.writeBytes a vs).params = s.params := by
  rw [writeBytes_eq]

/-- Two bytes written one after the other are both there: their addresses differ, at the top of memory too. -/
theorem wordAt_writeBytes_pair {s : State} (hs : s.mem.wf = true) (a : Word) (b0 b1 : Byte) :
    (s.writeBytes a [b0, b1]).wordAt a (a + 1) = joinBytes s.wordOrder b0 b1 := by
  have hne : a ≠ a + 1 := by simp
  have hs0 : (s.write a b0).mem.wf = true := wf_write a b0 hs
  show joinBytes s.wordOrder (((s.write a b0).write (a + 1) b1).read a)
    (((s.write a b0).write (a + 1) b1).read (a + 1)) = _
  rw [read_write_of_ne hs0 hne, read_write_same hs, read_write_same hs0]

/-- A word written in `word_order` is the word there (R46). -/
theorem wordAt_writeBytes_splitWord {s : State} (hs : s.mem.wf = true) (a w : Word) :
    (s.writeBytes a (splitWord s.wordOrder w)).wordAt a (a + 1) = w := by
  obtain ⟨b0, b1, hsplit, hjoin⟩ := splitWord_join s.wordOrder w
  rw [hsplit, wordAt_writeBytes_pair hs, hjoin]

/-- A word fetch gives the word at `pc` and moves `pc` past it (R49). -/
theorem fetchWord_eq (s : State) : s.fetchWord = (s.wordAt s.pc (s.pc + 1), { s with pc := s.pc + 2 }) := by
  have hpc : s.pc + 1 + 1 = s.pc + 2 := BitVec.add_assoc ..
  rw [← hpc]
  rfl

end State

theorem ofNat_mod_eq_loByte (w : Word) : BitVec.ofNat 8 (w.toNat % 256) = loByte w := by
  rw [← toNat_loByte, BitVec.ofNat_toNat, BitVec.setWidth_eq]

theorem ofNat_div_eq_hiByte (w : Word) : BitVec.ofNat 8 (w.toNat / 256) = hiByte w := by
  rw [← toNat_hiByte, BitVec.ofNat_toNat, BitVec.setWidth_eq]

/-! ## The stack -/

/-- R51's `0x0100 | SP` as a sum: SP has no bit of the page number. -/
theorem stackSlot_eq_stackAddr (sp : Byte) : Claims.stackSlot sp = stackAddr sp := by
  rw [Claims.stackSlot, ← toNat_stackAddr, BitVec.ofNat_toNat, BitVec.setWidth_eq]

theorem toNat_sub_one (b : Byte) : (b - 1).toNat = (b.toNat + 255) % 256 := by
  rw [BitVec.toNat_sub, Nat.add_comm]
  rfl

theorem ofNat_succ_mod (b : Byte) : BitVec.ofNat 8 ((b.toNat + 1) % 256) = b + 1 := by
  apply BitVec.eq_of_toNat_eq
  rw [BitVec.toNat_ofNat, BitVec.toNat_add]
  exact Nat.mod_mod ..

/-- A pull undoes the decrement of a push. -/
theorem pull_push_sp (s : State) (v : Byte) : (s.push v).pull.2.sp = s.sp := BitVec.sub_add_cancel ..

/-- A pull reads the slot the push wrote (R52, R53). -/
theorem pull_push_fst {s : State} (hs : s.mem.wf = true) (v : Byte) : (s.push v).pull.1 = v := by
  have hsp : (s.push v).sp + 1 = s.sp := pull_push_sp s v
  rw [State.pull_fst, hsp, State.read_push hs, if_pos rfl]

/-! ## The host's memory port -/

section
variable {s : State} (hact : s.hostMayAct = true) {n : Nat}
include hact

/-- In range the port reads the byte of the 16-bit address (R44). -/
theorem hostRead_of_lt (hn : n < memCapacity) : s.hostRead n = some (.byte (s.read (BitVec.ofNat 16 n)), s) := by
  rw [State.hostRead, if_pos hact, if_pos hn, State.read, BitVec.toNat_ofNat, Nat.mod_eq_of_lt hn]

theorem hostRead_of_le (hn : memCapacity ≤ n) :
    s.hostRead n = some (.fatal (.readRange n), { s with fatal := some (.readRange n) }) := by
  rw [State.hostRead, if_pos hact, if_neg (Nat.not_lt.2 hn)]

/-- In range the port writes as the core does (R44). -/
theorem hostWrite_of_lt (hn : n < memCapacity) (v : Byte) :
    s.hostWrite n v = some (.ok, s.write (BitVec.ofNat 16 n) v) := by
  rw [State.hostWrite, if_pos hact, if_pos hn, State.write, BitVec.toNat_ofNat, Nat.mod_eq_of_lt hn]

theorem hostWrite_of_le (hn : memCapacity ≤ n) (v : Byte) : s.hostWrite n v = some (.failed, s) := by
  rw [State.hostWrite, if_pos hact, if_neg (Nat.not_lt.2 hn)]

end

theorem ofNat_eq_iff_of_lt {n : Nat} (hn : n < memCapacity) (a : Word) : BitVec.ofNat 16 n = a ↔ a.toNat = n := by
  rw [← BitVec.toNat_inj, BitVec.toNat_ofNat, Nat.mod_eq_of_lt hn, eq_comm]

end Sys2Proof.Machine

open Sys2Proof Sys2Proof.Machine

/-- Settles O27: the law of a read after a write, at the same address and at another. -/
theorem readAfterWrite : Obligations.ReadAfterWrite := by
  intro s a c v hs
  have hsame : (s.write a v).read a = v := State.read_write_same hs a v
  exact ⟨hsame, fun hne => State.read_write_of_ne hs hne v, congrArg (·, _) hsame⟩

/-- Settles O28: the two bytes are the word's split in `word_order`, which a word read joins again. -/
theorem wordRoundTrip : Obligations.WordRoundTrip := by
  intro s a w hs hwrap lo hi bytes s'
  have hbytes : bytes = splitWord s.wordOrder w := by
    simp only [bytes, lo, hi, ofNat_mod_eq_loByte, ofNat_div_eq_hiByte]
    cases s.wordOrder <;> rfl
  have hword : s'.wordAt a (a + 1) = w := by
    simp only [s', hbytes]
    exact State.wordAt_writeBytes_splitWord hs a w
  have hwrap' : s'.params.addrOverflow = .wrap := by
    simp only [s', State.writeBytes_params]
    exact hwrap
  constructor
  · rw [readWord_wrap hwrap', hword]
  · rw [State.fetchWord_eq]
    exact congrArg (·, _) hword

/-- Settles O29: a push is a write at the slot SP names, and a pull reads the slot the next SP names. -/
theorem pushThenPull : Obligations.PushThenPull := by
  intro s v hs
  rw [stackSlot_eq_stackAddr, stackSlot_eq_stackAddr, ofNat_succ_mod]
  exact ⟨toNat_sub_one s.sp, State.read_write_same hs _ v, fun a ha => State.read_write_of_ne hs ha v,
    pull_push_fst hs v, pull_push_sp s v, rfl, rfl⟩

/-- Settles O59: in range the port reads and writes one byte of memory, out of range it latches the fatal or fails. -/
theorem hostPortBounds : Obligations.HostPortBounds := by
  intro s n v hfatal hbudget hs
  have hact : s.hostMayAct = true := hostMayAct_iff.2 ⟨hbudget, hfatal⟩
  refine ⟨fun hn => ⟨hostRead_of_lt hact hn, _, hostWrite_of_lt hact hn v, rfl, fun a => ?_⟩,
    fun hn => ⟨hostRead_of_le hact hn, hostWrite_of_le hact hn v⟩⟩
  rw [State.read_write hs]
  exact if_congr (ofNat_eq_iff_of_lt hn a) rfl rfl
end

section
/-! PROOF. The decoder against the encoder (30_encoding.md R60 to R68). The decoder accepts an opcode with a format and the bytes of
an operand that fills it; the opcode map and the encoder's table agree in both directions, so such bytes are an encoding. -/

namespace Sys2Proof

/-! ## What the decoder accepts -/

/-- The decoder accepts exactly the bytes of a recognized opcode and of an operand that fills the opcode's format. -/
theorem decode_eq_ok_iff {set : OpcodeSet} {order : WordOrder} {bytes rest : List Byte} {i : Instr} :
    decode set order bytes = .ok (i, rest) ↔
      ∃ op f o, recognized set op = true ∧ opcodeFormat op = some f ∧ f.fill o = some i ∧
        bytes = op :: o.bytes order ++ rest := by
  constructor
  · intro h
    unfold decode at h
    split at h
    · cases h
    · next op tail =>
      split at h
      · next hrec =>
        split at h
        · next j rest hf => cases h; exact ⟨op, _, .none, hrec, hf, rfl, rfl⟩
        · next f b rest hf => cases h; exact ⟨op, _, .byte b, hrec, hf, rfl, rfl⟩
        · next f b0 b1 rest hf =>
          cases h
          refine ⟨op, _, .word (joinBytes order b0 b1), hrec, hf, rfl, ?_⟩
          rw [OperandField.bytes, splitWord_joinBytes]
          rfl
        · cases h
        · cases h
      · cases h
  · rintro ⟨op, f, o, hrec, hf, hfill, rfl⟩
    cases f with
    | f1 j =>
      cases o <;> cases hfill
      simp [decode, hrec, hf, OperandField.bytes]
    | f2 f =>
      cases o <;> cases hfill
      simp [decode, hrec, hf, OperandField.bytes]
    | f3 f =>
      cases o <;> cases hfill
      next w =>
      obtain ⟨b0, b1, hsplit, hjoin⟩ := splitWord_join order w
      simp [decode, hrec, hf, OperandField.bytes, hsplit, hjoin]

theorem decode_of_not_recognized {set : OpcodeSet} {op : Byte} (h : recognized set op = false)
    (order : WordOrder) (rest : List Byte) : decode set order (op :: rest) = .error (.unrecognized op) := by
  simp [decode, h]

/-! ## The opcode map against the encoder's table -/

/-- Every instruction the format makes has the opcode `op` and carries the operand it was made of. -/
def Format.EncodesTo (op : Byte) : Format → Prop
  | .f1 i => i.opcode = op ∧ i.operandField = .none
  | .f2 f => ∀ b, (f b).opcode = op ∧ (f b).operandField = .byte b
  | .f3 f => ∀ w, (f w).opcode = op ∧ (f w).operandField = .word w

theorem Format.EncodesTo.of_fill {op : Byte} {f : Format} (h : f.EncodesTo op) {o : OperandField} {i : Instr}
    (hfill : f.fill o = some i) : i.opcode = op ∧ i.operandField = o := by
  cases f <;> cases o <;> cases hfill
  case f1.none => exact h
  case f2.byte b => exact h b
  case f3.word w => exact h w

/-- The opcode map agrees with the encoder's table: row by row and column by column (R65). -/
theorem opcodeFormat_encodesTo {op : Byte} {f : Format} (h : opcodeFormat op = some f) : f.EncodesTo op := by
  have hop : op = BitVec.ofNat 8 (16 * (op.toNat / 16) + op.toNat % 16) := by simp [Nat.div_add_mod]
  rw [hop]
  simp only [opcodeFormat] at h
  generalize op.toNat / 16 = row, op.toNat % 16 = column at h
  split at h
  case h_17 => cases h -- there is no row past Fx
  all_goals
    simp only [opcodeRow0, opcodeRow1, opcodeRow2, opcodeRow3, opcodeRow4, opcodeRow5, opcodeRow6, opcodeRow7,
      opcodeRow8, opcodeRow9, opcodeRowA, opcodeRowB, opcodeRowC, opcodeRowD, opcodeRowE, opcodeRowF] at h
    split at h <;> cases h <;> simp [Format.EncodesTo, Instr.opcode, Instr.operandField]

/-! ## The opcode sets -/

/-- An opcode has no decoder entry exactly when the set does not recognize it (R75). -/
theorem decodeEntry_eq_none_iff {set : OpcodeSet} {op : Byte} :
    decodeEntry set op = none ↔ recognized set op = false := by
  cases hf : opcodeFormat op <;> simp [decodeEntry, recognized, hf]

/-- The 105 of R66 are, in order, the bytes the opcode map leaves out. -/
theorem recognized_documented151_eq_false_iff (op : Byte) :
    recognized .documented151 op = false ↔ op ∈ Claims.unrecognizedOpcodes := by
  have hlist : Claims.unrecognizedOpcodes =
      ((List.range 256).map (BitVec.ofNat 8)).filter fun op => !recognized .documented151 op := by decide
  have hbyte : op ∈ (List.range 256).map (BitVec.ofNat 8) :=
    List.mem_map.2 ⟨op.toNat, List.mem_range.2 op.isLt, by simp⟩
  rw [hlist, List.mem_filter, and_iff_right hbyte, Bool.not_eq_true']

/-- Each opcode of the minimum set is in the opcode map, so the list alone decides (R67). -/
theorem recognized_minimum19_iff (op : Byte) : recognized .minimum19 op = true ↔ op ∈ Claims.minimumOpcodes := by
  have hmap : minimum19.all (fun op => (opcodeFormat op).isSome) = true := by decide
  have hlist : Claims.minimumOpcodes = minimum19 := rfl
  simpa [hlist, recognized] using List.all_eq_true.1 hmap op

end Sys2Proof

open Sys2Proof

/-- Settles O1: the instruction's own opcode and operand are what the decoder looks for. -/
theorem decodeOfEncodeIsTheInstruction : Obligations.DecodeOfEncodeIsTheInstruction := by
  intro set order i rest hwf
  obtain ⟨f, hf, hfill⟩ := Option.bind_eq_some_iff.1 (opcodeFormat_fill i)
  exact decode_eq_ok_iff.2 ⟨i.opcode, f, i.operandField, (recognized_opcode set i).trans hwf, hf, hfill, rfl⟩

/-- Settles O2: the opcode and operand read are the ones the encoder writes. -/
theorem decodedBytesAreTheEncoding : Obligations.DecodedBytesAreTheEncoding := by
  intro set order bytes rest i h
  obtain ⟨op, f, o, hrec, hf, hfill, rfl⟩ := decode_eq_ok_iff.1 h
  obtain ⟨rfl, rfl⟩ := (opcodeFormat_encodesTo hf).of_fill hfill
  exact ⟨rfl, (recognized_opcode set i).symm.trans hrec⟩

/-- Settles O3: five of the words are encodings, two begin with an unrecognized opcode. -/
theorem sampleWordsDecode : Obligations.SampleWordsDecode :=
  have decode_encode := decodeOfEncodeIsTheInstruction
  ⟨decode_encode .documented151 .little (.jmpAbs 0xEFFC) [] rfl,
    decode_encode .documented151 .big (.jmpAbs 0xEFFC) [] rfl,
    decode_encode .documented151 .little (.ldaImm 0x84) [] rfl,
    decode_encode .documented151 .little (.ldaZpX 0x40) [] rfl,
    decode_encode .documented151 .little .nop [] rfl,
    decode_of_not_recognized rfl .little [], decode_of_not_recognized rfl .little []⟩

/-- Settles O4: an opcode without an entry is one the set does not recognize. -/
theorem opcodeSetsAreTheListed : Obligations.OpcodeSetsAreTheListed := by
  intro op
  rw [decodeEntry_eq_none_iff, decodeEntry_eq_none_iff, recognized_documented151_eq_false_iff,
    ← recognized_minimum19_iff, Bool.not_eq_true]
  exact ⟨Iff.rfl, Iff.rfl⟩
end

section
/-! PROOF. The instruction a step runs (30_encoding.md R60 to R62, 40_execute_loop.md R75 to R77, R82, R83). The opcode at `pc` alone
decides whether the decoder answers an instruction there, for memory never ends inside one; the instruction it answers has that
opcode, and so the opcode's entry. -/

namespace Sys2Proof

/-! ## The decoder's entry and the encoding's length -/

/-- The decoder entry of an instruction's opcode is the instruction's own, whatever operand it carries (R65, R75). -/
theorem decodeEntry_opcode {set : OpcodeSet} {i : Instr} (h : i.wellFormed set = true) :
    decodeEntry set i.opcode = some i.entry := by
  rw [decodeEntry, recognized_opcode, if_pos h]
  cases i <;> (simp only [Instr.opcode]; rfl)

theorem length_encode_le (order : WordOrder) (i : Instr) : (encode order i).length ≤ 3 := by
  rw [encode]
  cases i.operandField with
  | none => simp [OperandField.bytes]
  | byte b => simp [OperandField.bytes]
  | word w => cases order <;> simp [OperandField.bytes, splitWord]

/-- A recognized opcode and two bytes after it are enough for an instruction (R61). -/
theorem exists_decode_of_recognized {set : OpcodeSet} {op : Byte} (h : recognized set op = true)
    (order : WordOrder) (b0 b1 : Byte) : ∃ i rest, decode set order [op, b0, b1] = .ok (i, rest) := by
  cases hf : opcodeFormat op with
  | none => simp [recognized, hf] at h
  | some f => cases f <;> simp [decode, h, hf]

namespace Machine

/-! ## The bytes at `pc` -/

theorem getElem?_fetchBytes (s : State) {n k : Nat} (h : k < n) :
    (s.fetchBytes n)[k]? = some (s.read (s.pc + BitVec.ofNat 16 k)) := by
  induction n generalizing s k with
  | zero => omega
  | succ n ih =>
    cases k with
    | zero => simp [State.fetchBytes, State.fetchByte]
    | succ k =>
      have hpc : s.pc + BitVec.ofNat 16 (k + 1) = s.pc + 1 + BitVec.ofNat 16 k := by
        rw [BitVec.add_assoc, Nat.add_comm k 1, BitVec.ofNat_add]
        rfl
      rw [hpc, State.fetchBytes, List.getElem?_cons_succ, ih s.fetchByte.2 (Nat.lt_of_succ_lt_succ h)]
      rfl

theorem decodeAt_of_decode {s : State} {i : Instr} {rest : List Byte}
    (h : decode s.params.opcodeSet s.wordOrder (s.fetchBytes 3) = .ok (i, rest)) : s.decodeAt = .ok i := by
  rw [State.decodeAt, h]

theorem decodeAt_of_encode {s : State} {i : Instr} (hi : i.wellFormed s.params.opcodeSet = true)
    (hbytes : ∀ k v, (encode s.wordOrder i)[k]? = some v → s.read (s.pc + BitVec.ofNat 16 k) = v) :
    s.decodeAt = .ok i := by
  have hfront : encode s.wordOrder i <+: s.fetchBytes 3 := by
    rw [List.prefix_iff_getElem?]
    intro k hk
    rw [getElem?_fetchBytes s (Nat.lt_of_lt_of_le hk (length_encode_le _ i)),
      hbytes k _ (List.getElem?_eq_getElem hk)]
  obtain ⟨rest, hrest⟩ := hfront
  apply decodeAt_of_decode (rest := rest)
  rw [← hrest]
  exact decodeOfEncodeIsTheInstruction _ _ i rest hi

/-- An opcode without an entry is no instruction's. -/
theorem decodeAt_of_no_entry {s : State} (h : decodeEntry s.params.opcodeSet (s.read s.pc) = none) :
    s.decodeAt = .error (.unrecognized (s.read s.pc)) := by
  rw [State.decodeAt, fetchBytes_three, decode_of_not_recognized (decodeEntry_eq_none_iff.1 h)]

/-- An opcode with an entry is that of an instruction with that entry. -/
theorem decodeAt_of_entry {s : State} {e : Entry} (h : decodeEntry s.params.opcodeSet (s.read s.pc) = some e) :
    ∃ i, s.decodeAt = .ok i ∧ i.entry = e := by
  have hrec : recognized s.params.opcodeSet (s.read s.pc) = true := by
    by_contra hnot
    rw [decodeEntry_eq_none_iff.2 (Bool.not_eq_true _ ▸ hnot)] at h
    cases h
  obtain ⟨i, rest, hi⟩ :=
    exists_decode_of_recognized hrec s.wordOrder (s.read (s.pc + 1)) (s.read (s.pc + 1 + 1))
  obtain ⟨hbytes, hwf⟩ := decodedBytesAreTheEncoding _ _ _ _ i hi
  have hop : s.read s.pc = i.opcode := List.head_eq_of_cons_eq hbytes
  rw [hop, decodeEntry_opcode hwf] at h
  exact ⟨i, decodeAt_of_decode hi, Option.some.inj h⟩

/-! ## The step, case by case -/

section
variable {s : State} (hs : s.stopped = none)
include hs

theorem step_of_decodeAt {i : Instr} (hi : s.decodeAt = .ok i) :
    step s = if s.fallsShort i then shortfallStep s else exec i s := by
  rw [step, hs, hi]

theorem step_of_no_entry (h : decodeEntry s.params.opcodeSet (s.read s.pc) = none) :
    step s = unrecognizedStep s := by
  rw [step, hs, decodeAt_of_no_entry h]

end

/-- A budget falls short only under `P_SHORTFALL = fault`, and only below the base cost (R82). -/
theorem fallsShort_iff {s : State} {i : Instr} : s.fallsShort i = true ↔
    s.params.shortfall = .fault ∧ ∃ n, s.budget = some n ∧ n < (i.entry.base : Int) := by
  unfold State.fallsShort
  cases s.params.shortfall <;> cases s.budget <;> simp

theorem countUnrecognized_eq_past (s : State) : s.countUnrecognized =
    { Claims.past 1 1 s with
      illegalCount := s.illegalCount + 1
      events := s.events ++ [.unrecognized (s.read s.pc) s.pc] } := rfl

end Machine

end Sys2Proof

open Sys2Proof Sys2Proof.Machine

/-- Settles O7: the three bytes the step decodes begin with the encoding. -/
theorem stepRunsTheEncodedInstruction : Obligations.StepRunsTheEncodedInstruction := by
  intro s i hf hr hd hshort hwf hbytes
  rw [step_of_decodeAt (stopped_eq_none.2 ⟨hf, hr, hd⟩) (decodeAt_of_encode hwf hbytes), if_neg]
  rw [fallsShort_iff, hshort]
  exact nofun

/-- Settles O6: the three bytes decoded are those fetching gives, and each budget clause rules a shortfall out. -/
theorem stepRunsDecodedInstruction : Obligations.StepRunsDecodedInstruction := by
  intro s i rest hf hr hd hdec hbudget
  have hnext : s.pc + 2 = s.pc + 1 + 1 := by rw [BitVec.add_assoc]; rfl
  rw [hnext, ← fetchBytes_three] at hdec
  rw [step_of_decodeAt (stopped_eq_none.2 ⟨hf, hr, hd⟩) (decodeAt_of_decode hdec), if_neg]
  rw [fallsShort_iff]
  rintro ⟨hfault, n, hn, hlt⟩
  obtain hcomplete | hnone | ⟨m, hm, hle⟩ := hbudget
  · rw [hfault] at hcomplete; cases hcomplete
  · rw [hn] at hnone; cases hnone
  · rw [hn] at hm; cases hm; omega

/-- Settles O8: the step counts the opcode, and the count of ten is the fatal one. -/
theorem unrecognizedOpcodeIsCounted : Obligations.UnrecognizedOpcodeIsCounted := by
  intro s hf hr hd hnone
  rw [step_of_no_entry (stopped_eq_none.2 ⟨hf, hr, hd⟩) hnone, unrecognizedStep, countUnrecognized_eq_past]
  refine ⟨fun hc => if_neg hc, fun hc => ⟨if_pos hc, ?_⟩⟩
  rw [State.afterFatal, countUnrecognized_eq_past, hc]

/-- Settles O9: the entry of the opcode at `pc` is that of the instruction there, whose base cost the budget is below. -/
theorem budgetShortfallIsFatal : Obligations.BudgetShortfallIsFatal := by
  intro s e n hf hr hd hshort hentry hn hlt
  obtain ⟨i, hi, rfl⟩ := decodeAt_of_entry hentry
  refine ⟨?_, rfl⟩
  rw [step_of_decodeAt (stopped_eq_none.2 ⟨hf, hr, hd⟩) hi, if_pos (fallsShort_iff.2 ⟨hshort, n, hn, hlt⟩)]
  rfl
end

section
/-! PROOF. The decimal refusal (40_execute_loop.md R86, 60_exceptions.md R221, R225): the decimal check is the one place where an
instruction is refused, and only ADC and SBC make it. -/

namespace Sys2Proof.Machine

section
variable {i : Instr} {s : State} {r : Refusal}

theorem storeOp_ne_refused {o : Operand} {v : Byte} : storeOp i o v s ≠ .refused r := nofun

theorem impliedOp_ne_refused {apply : State → State} : impliedOp i apply s ≠ .refused r := nofun

theorem branch_ne_refused {off : Byte} {taken : Bool} : branch i off taken s ≠ .refused r := nofun

theorem logicOp_ne_refused {o : Operand} {alu : Byte → Byte → Byte} : logicOp i o alu s ≠ .refused r :=
  readOp_ne_refused

theorem shiftOp_ne_refused {o : Operand} {alu : Byte → Bool → ShiftResult} : shiftOp i o alu s ≠ .refused r :=
  modifyOp_ne_refused

theorem opJmp_ne_refused : opJmp i s ≠ .refused r := by
  unfold opJmp opJmpInd
  split
  · cases s.readWord (targetOf i) <;> exact nofun
  · exact impliedOp_ne_refused

/-- A check around an operation that is never refused refuses only with D = 1 under `refuse`. -/
theorem decimal_of_decimalCheck_refused {perform : Outcome} (hp : perform ≠ .refused r)
    (h : decimalCheck i s perform = .refused r) : s.flags.d = true ∧ s.params.decimal = .refuse := by
  obtain ⟨hd, hm, -⟩ | ⟨-, hthrough⟩ := decimalCheck_cases i s perform
  · exact ⟨hd, hm⟩
  · exact absurd (hthrough.symm.trans h) hp

/-- The instructions with a decimal mode are those that make the check. -/
theorem exec_eq_decimalCheck (h : i.mnemonic ∈ [Mnemonic.adc, .sbc]) :
    ∃ perform, exec i s = decimalCheck i s perform := by
  rw [exec_eq_performBy, performBy]
  obtain hm | hm : i.mnemonic = .adc ∨ i.mnemonic = .sbc := by simpa using h
  · rw [hm]; exact ⟨_, rfl⟩
  · rw [hm]; exact ⟨_, rfl⟩

theorem exec_refused (h : exec i s = .refused r) :
    s.flags.d = true ∧ s.params.decimal = .refuse ∧ i.mnemonic ∈ [Mnemonic.adc, .sbc] := by
  rw [exec_eq_performBy, performBy] at h
  cases hm : i.mnemonic <;> simp only [hm] at h
  case adc | sbc =>
    obtain ⟨hd, hrefuse⟩ := decimal_of_decimalCheck_refused readOp_ne_refused h
    exact ⟨hd, hrefuse, by decide⟩
  case cmp | cpx | cpy | lda | ldx | ldy | bit => exact absurd h readOp_ne_refused
  case and | ora | eor => exact absurd h logicOp_ne_refused
  case sta | stx | sty => exact absurd h storeOp_ne_refused
  case inc | dec => exact absurd h modifyOp_ne_refused
  case asl | lsr | rol | ror => exact absurd h shiftOp_ne_refused
  case bcc | bcs | beq | bmi | bne | bpl | bvc | bvs => exact absurd h branch_ne_refused
  case jmp => exact absurd h opJmp_ne_refused
  all_goals exact absurd h impliedOp_ne_refused

end

end Sys2Proof.Machine

open Sys2Proof Sys2Proof.Machine

/-- Settles O19: ADC and SBC make the decimal check, and every other shape of step completes or is fatal. -/
theorem decimalIsTheOnlyRefusal : Obligations.DecimalIsTheOnlyRefusal := by
  intro i s
  refine ⟨fun ⟨hd, hrefuse, hm⟩ => ⟨?_, rfl⟩, fun r h => exec_refused h⟩
  obtain ⟨perform, hexec⟩ := exec_eq_decimalCheck (s := s) hm
  rw [hexec]
  obtain ⟨-, -, hrefused⟩ | ⟨hnot, -⟩ := decimalCheck_cases i s perform
  · exact hrefused
  · exact absurd ⟨hd, hrefuse⟩ hnot
end

section
/-! PROOF. The cycles of a step (40_execute_loop.md R80, R81, R83, 44_control_transfer.md R154). Every shape of step ends with a
charge, of the instruction's cost and for a branch of at most two cycles more; nothing before that charge touches the budget. -/

namespace Sys2Proof.Machine

/-! ## The cost of an instruction -/

/-- The penalty column of the table is the list of R81. -/
theorem entry_pen (i : Instr) : i.entry.pen = decide (i.opcode ∈ Claims.penaltyOpcodes) := by
  cases i <;> (simp only [Instr.opcode]; rfl)

/-- No opcode of seven cycles has the penalty. -/
theorem entry_bounds (i : Instr) : 1 ≤ i.entry.base ∧ i.entry.base + i.entry.pen.toNat ≤ 7 := by
  cases i <;> simp [Instr.entry]

theorem cost_bounds (i : Instr) (crossed : Bool) : 1 ≤ i.cost crossed ∧ i.cost crossed ≤ 7 := by
  obtain ⟨hlo, hhi⟩ := entry_bounds i
  cases crossed
  · rw [Instr.cost, Bool.and_false, Bool.toNat_false]
    omega
  · rw [Instr.cost, Bool.and_true]
    omega

/-- The eight branches (R154). -/
def branchMnemonics : List Mnemonic := [.bcc, .bcs, .beq, .bmi, .bne, .bpl, .bvc, .bvs]

theorem cost_of_branch {i : Instr} (h : i.mnemonic ∈ branchMnemonics) : i.cost false = 2 := by
  revert h
  cases i <;> simp [branchMnemonics, Instr.mnemonic, Instr.cost, Instr.entry]

theorem branchExtra_le (taken : Bool) (next target : Word) : branchExtra taken next target ≤ 2 := by
  unfold branchExtra
  have := Bool.toNat_le (pageCross next (.addr target))
  split <;> omega

/-! ## The charge of each shape of step -/

/-- The outcome's next state, if it has one, has the budget of `s` less one to seven cycles. -/
def Charges (s : State) (o : Outcome) : Prop :=
  ∀ t, o = .next t → ∃ c : Nat, 1 ≤ c ∧ c ≤ 7 ∧ t.budget = (s.charge c).budget

theorem charges_of_charge {s u : State} {c : Nat} (hc : 1 ≤ c ∧ c ≤ 7) (hu : u.budget = s.budget) :
    ∃ c' : Nat, 1 ≤ c' ∧ c' ≤ 7 ∧ (u.charge c).budget = (s.charge c').budget :=
  ⟨c, hc.1, hc.2, by rw [State.charge_budget, hu, State.charge_budget]⟩

@[simp] theorem writePlace_budget (u : State) (v : Byte) (p : Place) : (u.writePlace v p).budget = u.budget := by
  cases p with
  | value _ => rfl
  | acc => rfl
  | mem ea => cases ea <;> rfl

section
variable {i : Instr} {o : Operand} {s : State}

theorem impliedOp_charges {apply : State → State} (h : ∀ u, (apply u).budget = u.budget) :
    Charges s (impliedOp i apply s) := by
  intro t ht
  rw [impliedOp_next.1 ht]
  exact charges_of_charge (cost_bounds i _) (h (s.fetched i))

theorem readOp_charges {apply : Byte → State → State} (h : ∀ m u, (apply m u).budget = u.budget) :
    Charges s (readOp i o apply s) := by
  intro t ht
  obtain ⟨m, -, rfl⟩ := readOp_next.1 ht
  exact charges_of_charge (cost_bounds i _) (h m (s.fetched i))

theorem logicOp_charges {alu : Byte → Byte → Byte} : Charges s (logicOp i o alu s) :=
  readOp_charges fun _ _ => rfl

theorem storeOp_charges {v : Byte} : Charges s (storeOp i o v s) := by
  intro t ht
  rw [storeOp_next.1 ht]
  exact charges_of_charge (cost_bounds i _) (writePlace_budget ..)

theorem modifyOp_charges {result : Byte → Byte} {flags : Byte → Flags → Flags} :
    Charges s (modifyOp i o result flags s) := by
  intro t ht
  obtain ⟨v, -, rfl⟩ := modifyOp_next.1 ht
  exact charges_of_charge (cost_bounds i _) (writePlace_budget ..)

theorem shiftOp_charges {alu : Byte → Bool → ShiftResult} : Charges s (shiftOp i o alu s) := modifyOp_charges

theorem branch_charges {off : Byte} {taken : Bool} (h : i.mnemonic ∈ branchMnemonics) :
    Charges s (branch i off taken s) := by
  intro t ht
  rw [branch_next.1 ht, cost_of_branch h]
  have := branchExtra_le taken (s.fetched i).pc (branchTarget (s.fetched i).pc off)
  exact charges_of_charge (by omega) (by cases taken <;> rfl)

theorem opJmp_charges : Charges s (opJmp i s) := by
  intro t ht
  unfold opJmp at ht
  split at ht
  · obtain ⟨_, -, rfl⟩ := opJmpInd_next.1 ht
    exact charges_of_charge (cost_bounds i _) rfl
  · rw [impliedOp_next.1 ht]
    exact charges_of_charge (cost_bounds i _) rfl

theorem decimalCheck_charges {perform : Outcome} (h : Charges s perform) : Charges s (decimalCheck i s perform) := by
  intro t ht
  obtain ⟨-, -, hr⟩ | ⟨-, hp⟩ := decimalCheck_cases i s perform
  · rw [hr] at ht; cases ht
  · exact h t (hp ▸ ht)

end

/-! ## The charge of every step -/

theorem adcApply_budget (m : Byte) (s : State) : (adcApply m s).budget = s.budget := by
  unfold adcApply
  split <;> rfl

theorem exec_charges (i : Instr) (s : State) : Charges s (exec i s) := by
  rw [exec_eq_performBy, performBy]
  cases hm : i.mnemonic
  case adc => exact decimalCheck_charges (readOp_charges adcApply_budget)
  case sbc => exact decimalCheck_charges (readOp_charges fun _ _ => rfl)
  case cmp | cpx | cpy | lda | ldx | ldy | bit => exact readOp_charges fun _ _ => rfl
  case and | ora | eor => exact logicOp_charges
  case sta | stx | sty => exact storeOp_charges
  case inc | dec => exact modifyOp_charges
  case asl | lsr | rol | ror => exact shiftOp_charges
  case bcc | bcs | beq | bmi | bne | bpl | bvc | bvs => exact branch_charges (by rw [hm]; decide)
  case jmp => exact opJmp_charges
  all_goals exact impliedOp_charges fun _ => rfl

/-- A step charges one to seven cycles: one for an unrecognized opcode (R83), the instruction's charge otherwise. -/
theorem step_charges (s : State) : Charges s (step s) := by
  intro t ht
  obtain ⟨-, ⟨-, -, rfl⟩ | ⟨i, -, -, hexec⟩⟩ := step_next ht
  · exact ⟨1, by omega, by omega, rfl⟩
  · exact exec_charges i s t hexec

/-- The same for a running budget. -/
theorem step_budget {s t : State} {n : Int} (h : step s = .next t) (hn : s.budget = some n) :
    ∃ m, t.budget = some m ∧ 1 ≤ n - m ∧ n - m ≤ 7 := by
  obtain ⟨c, hlo, hhi, hb⟩ := step_charges s t h
  rw [State.charge_budget, hn] at hb
  exact ⟨n - c, hb, by omega, by omega⟩

end Sys2Proof.Machine

open Sys2Proof Sys2Proof.Machine

/-- Settles O5: the cost adds a cycle for the penalty column, which is the list of R81. -/
theorem pagePenaltyOpcodes : Obligations.PagePenaltyOpcodes := by
  intro i crossed
  rw [Instr.cost, entry_pen]
  rfl

/-- Settles O14: the charge of a step, and that a budget there is none of stays none. -/
theorem stepChargesOneToSevenCycles : Obligations.StepChargesOneToSevenCycles := by
  intro s t h
  refine ⟨fun hnone => ?_, fun n hn => step_budget h hn⟩
  obtain ⟨c, -, -, hb⟩ := step_charges s t h
  rw [hb, State.charge_budget, hnone]
  rfl
end

section
/-! PROOF. The execute call (10_state.md R31, R32, 40_execute_loop.md R78, R79, R85, 60_exceptions.md R221). Every step leaves less
budget than it was given, so the loop's bound on its steps never cuts it short: any two bounds the budget does not pass give the same
run. -/

namespace Sys2Proof.Machine

/-! ## The loop -/

/-- A step of a running call leaves one to seven cycles less. -/
theorem step_budgetLeft {s t : State} (h : 0 < s.budgetLeft) (ht : step s = .next t) :
    t.budgetLeft + 1 ≤ s.budgetLeft ∧ s.budgetLeft ≤ t.budgetLeft + 7 := by
  cases hn : s.budget with
  | none => simp [State.budgetLeft, hn] at h
  | some n =>
    obtain ⟨m, hm, hlo, hhi⟩ := step_budget ht hn
    simp only [State.budgetLeft, hn, hm, Option.getD_some]
    omega

/-- With no budget left the loop ends, whatever its bound. -/
theorem executeLoop_of_spent {s : State} (h : s.budgetLeft ≤ 0) (k : Nat) :
    State.executeLoop k s = s.endCall (.returned s.budgetLeft) := by
  cases k with
  | zero => rfl
  | succ k => rw [State.executeLoop, if_neg (by omega)]

section
variable {s : State} (h : 0 < s.budgetLeft) (k : Nat)
include h

theorem executeLoop_of_next {t : State} (ht : step s = .next t) :
    State.executeLoop (k + 1) s = State.executeLoop k t := by
  rw [State.executeLoop, if_pos h, ht]

theorem executeLoop_of_fault {f : Fault} (hf : step s = .fault f) :
    State.executeLoop (k + 1) s = (s.afterFatal f).endCall (.fatal f) := by
  rw [State.executeLoop, if_pos h, hf]

theorem executeLoop_of_refused {r : Refusal} (hr : step s = .refused r) :
    State.executeLoop (k + 1) s = (s.afterRefusal r).endCall (.refused r) := by
  rw [State.executeLoop, if_pos h, hr]

end

/-- The loop runs alike under any two bounds that the budget does not pass (log 14). -/
theorem executeLoop_bound_irrelevant {j k : Nat} {s : State} (hj : s.budgetLeft ≤ j) (hk : s.budgetLeft ≤ k) :
    State.executeLoop j s = State.executeLoop k s := by
  induction j generalizing k s with
  | zero => rw [executeLoop_of_spent hj, executeLoop_of_spent hj]
  | succ j ih =>
    by_cases hpos : 0 < s.budgetLeft
    · obtain ⟨k, rfl⟩ : ∃ k', k = k' + 1 := ⟨k - 1, by omega⟩
      cases hstep : step s with
      | next t =>
        obtain ⟨hless, -⟩ := step_budgetLeft hpos hstep
        rw [executeLoop_of_next hpos j hstep, executeLoop_of_next hpos k hstep]
        exact ih (by omega) (by omega)
      | fault f => rw [executeLoop_of_fault hpos j hstep, executeLoop_of_fault hpos k hstep]
      | refused r => rw [executeLoop_of_refused hpos j hstep, executeLoop_of_refused hpos k hstep]
    · rw [executeLoop_of_spent (by omega), executeLoop_of_spent (by omega)]

/-- A loop that returns has spent its budget, and the last step overspent it by at most six cycles. -/
theorem executeLoop_returned {k : Nat} {s t : State} {left : Int} (hk : s.budgetLeft ≤ k) (hlo : -6 ≤ s.budgetLeft)
    (h : State.executeLoop k s = (.returned left, t)) : left ≤ 0 ∧ -6 ≤ left ∧ t.budget = none := by
  induction k generalizing s with
  | zero => cases h; exact ⟨hk, hlo, rfl⟩
  | succ k ih =>
    by_cases hpos : 0 < s.budgetLeft
    · cases hstep : step s with
      | next u =>
        obtain ⟨hless, hmore⟩ := step_budgetLeft hpos hstep
        rw [executeLoop_of_next hpos k hstep] at h
        exact ih (by omega) (by omega) h
      | fault f => rw [executeLoop_of_fault hpos k hstep] at h; cases h
      | refused r => rw [executeLoop_of_refused hpos k hstep] at h; cases h
    · rw [executeLoop_of_spent (by omega)] at h
      cases h
      exact ⟨by omega, hlo, rfl⟩

/-! ## The call -/

/-- The state in which a call with budget `n` starts its loop. -/
def State.started (s : State) (n : Nat) : State := { s with budget := some (n : Int), orderSetup := .locked }

theorem execute_of_fatal {s : State} {f : Fault} (h : s.fatal = some f) (n : Nat) : s.execute n = (.fatal f, s) := by
  rw [State.execute, h]

theorem execute_of_refused {s : State} {r : Refusal} (hf : s.fatal = none) (h : s.refused = some r) (n : Nat) :
    s.execute n = (.refused r, s) := by
  rw [State.execute, hf, h]

theorem execute_of_not_reset {s : State} (hf : s.fatal = none) (hr : s.refused = none) (hd : s.resetDone = false)
    (n : Nat) : s.execute n = (.refused .notReset, s.afterRefusal .notReset) := by
  rw [State.execute, hf, hr, hd]
  rfl

/-- A reset does not clear the refusal mark (R221), so the next call is refused as the one before it. -/
theorem execute_resetOp_of_refused {s : State} {r : Refusal} (hf : s.fatal = none) (h : s.refused = some r)
    (n : Nat) : s.resetOp.execute n = (.refused r, s.resetOp) := by
  obtain ⟨hfatal, hrefused⟩ : s.resetOp.fatal = none ∧ s.resetOp.refused = some r := by
    rw [State.resetOp_of_no_fatal hf]
    exact ⟨hf, h⟩
  exact execute_of_refused hfatal hrefused n

/-- Where nothing stops a step, a call is the loop from its start. -/
theorem execute_eq_executeLoop {s : State} (h : s.stopped = none) (n : Nat) :
    s.execute n = State.executeLoop n (s.started n) := execute_of_ready h n

/-- A call that returns ran the loop. -/
theorem stopped_of_execute_returned {s t : State} {n : Nat} {left : Int} (h : s.execute n = (.returned left, t)) :
    s.stopped = none := by
  cases hf : s.fatal with
  | some f => rw [execute_of_fatal hf] at h; cases h
  | none =>
    cases hr : s.refused with
    | some r => rw [execute_of_refused hf hr] at h; cases h
    | none =>
      cases hd : s.resetDone with
      | false => rw [execute_of_not_reset hf hr hd] at h; cases h
      | true => exact stopped_eq_none.2 ⟨hf, hr, hd⟩

/-- A step that answers a next state sets no latch and no mark, and keeps the reset. -/
theorem stopped_of_step_next {s t : State} (h : step s = .next t) : t.stopped = none := by
  obtain ⟨hs, ⟨-, -, rfl⟩ | ⟨i, -, -, hexec⟩⟩ := step_next h
  · exact hs
  · obtain ⟨hreset, hfatal, hrefused, -⟩ := exec_session hexec
    rw [stopped_eq_none, hreset, hfatal, hrefused]
    exact stopped_eq_none.1 hs

/-- A running loop goes on as a call with the budget left would. -/
theorem executeLoop_eq_execute {t : State} {m : Int} {k : Nat} (hs : t.stopped = none) (hm : t.budget = some m)
    (hlocked : t.orderSetup = .locked) (hpos : 0 < m) (hk : m ≤ k) :
    State.executeLoop k t = State.execute { t with budget := none } m.toNat := by
  have hstarted : ({ t with budget := none } : State).started m.toNat = t := by
    rw [State.started, Int.toNat_of_nonneg (by omega), ← hm, ← hlocked]
  have hleft : t.budgetLeft = m := by rw [State.budgetLeft, hm, Option.getD_some]
  rw [execute_eq_executeLoop (s := { t with budget := none }) hs, hstarted]
  exact executeLoop_bound_irrelevant (by omega) (by omega)

end Sys2Proof.Machine

open Sys2Proof Sys2Proof.Machine

/-- Settles O13: one step off the loop, and the rest of the loop as a call of its own. -/
theorem executeRunsStepAfterStep : Obligations.ExecuteRunsStepAfterStep := by
  intro s n hf hr hd hn started
  obtain ⟨k, rfl⟩ : ∃ k, n = k + 1 := ⟨n - 1, by omega⟩
  have hcall : s.execute (k + 1) = State.executeLoop (k + 1) started :=
    execute_eq_executeLoop (stopped_eq_none.2 ⟨hf, hr, hd⟩) (k + 1)
  have hpos : 0 < started.budgetLeft := Int.natCast_pos.2 hn
  cases hstep : step started with
  | next t =>
    obtain ⟨m, hm, hlo, -⟩ := step_budget hstep rfl
    have hleft : t.budgetLeft = m := by rw [State.budgetLeft, hm, Option.getD_some]
    rw [hcall, executeLoop_of_next hpos k hstep]
    refine ⟨m, hm, by omega, fun hspent => ?_, fun hrest => ?_⟩
    · rw [executeLoop_of_spent (by omega), hleft]
      rfl
    · exact executeLoop_eq_execute (stopped_of_step_next hstep) hm (step_orderSetup hstep) hrest (by omega)
  | fault f =>
    rw [hcall, executeLoop_of_fault hpos k hstep]
    exact ⟨rfl, rfl⟩
  | refused r =>
    rw [hcall, executeLoop_of_refused hpos k hstep]
    exact ⟨rfl, afterRefusal_refused started r⟩

/-- Settles O15: only the loop returns, and it ends with the budget spent. -/
theorem executeReturnsWithTheBudgetSpent : Obligations.ExecuteReturnsWithTheBudgetSpent := by
  intro s t n left h
  rw [execute_eq_executeLoop (stopped_of_execute_returned h)] at h
  have hleft : (s.started n).budgetLeft = n := rfl
  exact executeLoop_returned (by omega) (by omega) h

/-- Settles O11: the mark outlives a reset, and a marked state refuses every call. -/
theorem executeBeforeResetIsRefused : Obligations.ExecuteBeforeResetIsRefused := by
  intro s n hf hr hd
  have hcall := execute_of_not_reset hf hr hd n
  refine ⟨hcall, fun k => ?_⟩
  rw [hcall]
  exact execute_resetOp_of_refused (s := s.afterRefusal .notReset) hf rfl k

/-- Settles O12: the loop of a call with budget 0 ends where it starts. -/
theorem executeZeroRunsNothing : Obligations.ExecuteZeroRunsNothing := by
  intro s hf hr hd
  rw [execute_eq_executeLoop (stopped_eq_none.2 ⟨hf, hr, hd⟩)]
  rfl
end

section
/-! PROOF. Where an operand is (41_addressing_modes.md R96 to R111), in numbers: the zero-page sums and pointers, the address sums of
16 bits with their page crosses, and what is read at each place. -/

namespace Sys2Proof.Machine

open Sys2Proof.Claims

/-! ## Zero page -/

theorem setWidth_eq_ofNat_toNat (b : Byte) : b.setWidth 16 = BitVec.ofNat 16 b.toNat := (BitVec.ofNat_toNat ..).symm

/-- R96 under `page`: the sum stays in page 0. -/
theorem zpAdd_page (b k : Byte) : zpAdd .page b k = BitVec.ofNat 16 ((b.toNat + k.toNat) % 256) := by
  rw [zpAdd, setWidth_eq_ofNat_toNat, BitVec.toNat_add]

/-- R96 under `linear`: the sum may reach into page 1. -/
theorem zpAdd_linear (b k : Byte) : zpAdd .linear b k = BitVec.ofNat 16 (b.toNat + k.toNat) := by
  rw [zpAdd, setWidth_eq_ofNat_toNat, setWidth_eq_ofNat_toNat, BitVec.ofNat_add]

/-! ## Zero-page pointers -/

theorem joinBytes_eq_wordOf (order : WordOrder) (b0 b1 : Byte) : joinBytes order b0 b1 = wordOf order b0 b1 := by
  have h (hi lo : Byte) : (hi ++ lo : BitVec (8 + 8)) = BitVec.ofNat 16 (hi.toNat * 256 + lo.toNat) := by
    rw [← toNat_append, BitVec.ofNat_toNat, BitVec.setWidth_eq]
  cases order
  · exact h b1 b0
  · exact h b0 b1

/-- The successor of a pointer's address within page 0 (R109). -/
theorem setWidth_loByte_add_one (n : Nat) :
    (loByte (BitVec.ofNat 16 n) + 1).setWidth 16 = BitVec.ofNat 16 ((n + 1) % 256) := by
  rw [setWidth_eq_ofNat_toNat, BitVec.toNat_add, toNat_loByte, BitVec.toNat_ofNat]
  congr 1
  show (n % 65536 % 256 + 1) % 256 = (n + 1) % 256
  omega

section
variable {s : State}

theorem zpWord_of_page (h : s.params.zpWrap = .page) (n : Nat) : s.zpWord (BitVec.ofNat 16 n) =
    wordOf s.wordOrder (s.read (BitVec.ofNat 16 n)) (s.read (BitVec.ofNat 16 ((n + 1) % 256))) := by
  rw [← joinBytes_eq_wordOf, ← setWidth_loByte_add_one, State.zpWord, h]
  rfl

theorem zpWord_of_linear (h : s.params.zpWrap = .linear) (n : Nat) : s.zpWord (BitVec.ofNat 16 n) =
    wordOf s.wordOrder (s.read (BitVec.ofNat 16 n)) (s.read (BitVec.ofNat 16 (n + 1))) := by
  rw [← joinBytes_eq_wordOf, BitVec.ofNat_add, State.zpWord, h]
  rfl

/-! ## Address sums -/

theorem addrAdd_of_lt {a k : Word} (o : AddrOverflow) (h : a.toNat + k.toNat < memCapacity) :
    addrAdd o a k = .addr (a + k) := if_pos h

/-- A sum is out of range exactly where it passes 0xFFFF under `fault` (R97). -/
theorem addrAdd_eq_oor_iff {o : AddrOverflow} {a k : Word} {n : Nat} :
    addrAdd o a k = .oor n ↔ o = .fault ∧ memCapacity ≤ a.toNat + k.toNat ∧ n = a.toNat + k.toNat := by
  unfold addrAdd
  split
  · next hlt => simp [Nat.not_le.2 hlt]
  · next hge => cases o <;> simp [Nat.not_lt.1 hge, eq_comm]

/-- The page-cross bit compares page numbers (R111). -/
theorem pageCross_addr (base ea : Word) : pageCross base (.addr ea) = decide (base.toNat / 256 ≠ ea.toNat / 256) := by
  simp only [pageCross, bne, beq_eq_decide, ← BitVec.toNat_inj, toNat_hiByte, decide_not]

theorem toNat_setWidth_byte (k : Byte) : (k.setWidth 16).toNat = k.toNat := BitVec.toNat_setWidth_of_le (by decide)

/-- The 16-bit sum of a base and an index is the sum of their numbers, modulo 65536. -/
theorem add_setWidth_byte (w : Word) (k : Byte) : w + k.setWidth 16 = BitVec.ofNat 16 (w.toNat + k.toNat) := by
  rw [BitVec.ofNat_add, BitVec.ofNat_toNat, BitVec.setWidth_eq, setWidth_eq_ofNat_toNat]

section
variable {w : Word} {k : Byte}

theorem indexed_of_le (h : w.toNat + k.toNat ≤ 0xFFFF) :
    s.indexed w k = ⟨.mem (.addr (BitVec.ofNat 16 (w.toNat + k.toNat))),
      decide (w.toNat / 256 ≠ (w.toNat + k.toNat) / 256)⟩ := by
  have hlt : w.toNat + k.toNat < memCapacity := Nat.lt_succ_of_le h
  rw [State.indexed, addrAdd_of_lt _ (by rwa [toNat_setWidth_byte]), pageCross_addr, add_setWidth_byte,
    BitVec.toNat_ofNat, Nat.mod_eq_of_lt hlt]

/-- A sum that wraps has left the last page for the first. -/
theorem indexed_of_wrap (h : 0xFFFF < w.toNat + k.toNat) (hwrap : s.params.addrOverflow = .wrap) :
    s.indexed w k = ⟨.mem (.addr (BitVec.ofNat 16 (w.toNat + k.toNat - 0x10000))), true⟩ := by
  have hsum : BitVec.ofNat 16 (w.toNat + k.toNat - 0x10000) = w + k.setWidth 16 := by
    rw [add_setWidth_byte]
    apply BitVec.eq_of_toNat_eq
    rw [BitVec.toNat_ofNat, BitVec.toNat_ofNat]
    exact (Nat.mod_eq_sub_mod (by omega)).symm
  have hcross : w.toNat / 256 ≠ (w.toNat + k.toNat - 0x10000) % 65536 / 256 := by
    have := w.isLt
    have := k.isLt
    omega
  rw [State.indexed, hwrap, addrAdd_wrap, pageCross_addr, ← hsum, BitVec.toNat_ofNat, decide_eq_true hcross]

theorem indexed_place_of_fault (h : 0xFFFF < w.toNat + k.toNat) (hfault : s.params.addrOverflow = .fault) :
    (s.indexed w k).place = .mem (.oor (w.toNat + k.toNat)) := by
  rw [State.indexed, addrAdd_eq_oor_iff.2 ⟨hfault, by rwa [toNat_setWidth_byte], rfl⟩, toNat_setWidth_byte]

end

/-! ## What is read at a place -/

theorem operand_of_place {o : Operand} {p : Place} (h : (s.resolve o).place = p) : s.operand o = s.readPlace p := by
  rw [State.operand, h]

end

end Sys2Proof.Machine

open Sys2Proof Sys2Proof.Machine

/-- Settles O31: the zero-page sum under either policy. -/
theorem zeroPageAddresses : Obligations.ZeroPageAddresses := by
  intro s b index
  have hindex (k : Byte) : index k = zpAdd s.params.zpWrap b k := by
    simp only [index]
    cases s.params.zpWrap
    · exact (zpAdd_page b k).symm
    · exact (zpAdd_linear b k).symm
  rw [hindex, hindex, ← setWidth_eq_ofNat_toNat]
  exact ⟨rfl, rfl, rfl⟩

/-- Settles O33: the pointer's address is a zero-page sum or the byte, and Y is added to the pointer as to any base. -/
theorem zeroPagePointers : Obligations.ZeroPagePointers := by
  intro s b succ pointer
  have hpointer (n : Nat) : s.zpWord (BitVec.ofNat 16 n) = pointer n := by
    simp only [pointer, succ]
    cases h : s.params.zpWrap
    · exact zpWord_of_page h n
    · exact zpWord_of_linear h n
  refine ⟨fun h => ?_, fun h => ?_, ?_⟩
  · rw [← hpointer, ← zpAdd_page, ← h]; rfl
  · rw [← hpointer, ← zpAdd_linear, ← h]; rfl
  · rw [← hpointer, ← setWidth_eq_ofNat_toNat]; rfl

/-- Settles O32: the three cases of an address sum, and the reading of each place. -/
theorem addressesAndOperands : Obligations.AddressesAndOperands := by
  intro s
  refine ⟨fun w => ?_, fun _ => rfl, rfl, fun o => ?_⟩
  · exact ⟨rfl, ⟨indexed_of_le, indexed_of_wrap, indexed_place_of_fault⟩,
      indexed_of_le, indexed_of_wrap, indexed_place_of_fault⟩
  · exact ⟨fun _ => operand_of_place, operand_of_place, fun _ => operand_of_place, fun _ => operand_of_place, rfl⟩
end

section
/-! PROOF. Which instructions stop at an operand they cannot read (40_execute_loop.md R86, 41_addressing_modes.md R97, 60_exceptions.md
R220, R225, R227): those of the reading forms, at an indexed sum out of range, and the indirect jump, at its pointer's second byte.
Nothing else in an instruction is fatal. -/

namespace Sys2Proof.Machine

open Sys2Proof.Claims

/-! ## Addresses out of range -/

/-- The addressing mode of an operand form (R95). -/
def modeOf : Operand → Mode
  | .acc => .acc
  | .imm _ => .imm
  | .zp _ => .zp
  | .zpx _ => .zpx
  | .zpy _ => .zpy
  | .abs _ => .abs
  | .absx _ => .absx
  | .absy _ => .absy
  | .indx _ => .indx
  | .indy _ => .indy

/-- An instruction's mode is that of its operand form, where it has one. -/
theorem entry_mode (i : Instr) : operandOf i = .acc ∨ i.entry.mode = modeOf (operandOf i) := by
  cases i <;> simp [operandOf, modeOf, Instr.entry]

section
variable {s : State} {n : Nat}

theorem indexed_place_oor {w : Word} {k : Byte} (h : (s.indexed w k).place = .mem (.oor n)) :
    s.params.addrOverflow = .fault ∧ memCapacity ≤ n := by
  obtain ⟨hfault, hle, rfl⟩ := addrAdd_eq_oor_iff.1 (Place.mem.inj h)
  exact ⟨hfault, hle⟩

/-- Only an indexed sum of 16 bits can be out of range, under `fault` and past 0xFFFF (R97). -/
theorem resolve_place_oor {o : Operand} (h : (s.resolve o).place = .mem (.oor n)) :
    s.params.addrOverflow = .fault ∧ memCapacity ≤ n ∧ modeOf o ∈ [Mode.absx, .absy, .indy] := by
  cases o
  case absx | absy | indy =>
    obtain ⟨hfault, hle⟩ := indexed_place_oor h
    exact ⟨hfault, hle, by simp [modeOf]⟩
  all_goals cases h

/-- The same for the instruction that carries the operand form. -/
theorem entry_mode_of_place_oor {i : Instr} (h : (s.resolve (operandOf i)).place = .mem (.oor n)) :
    i.entry.mode ∈ [Mode.absx, .absy, .indy] := by
  obtain ⟨-, -, hmode⟩ := resolve_place_oor h
  obtain hacc | hentry := entry_mode i
  · rw [hacc] at h; cases h
  · rwa [hentry]

/-- A word read is fatal exactly where its second byte is past 0xFFFF under `fault` (R46, R97). -/
theorem readWord_eq_error_iff {a : Word} {f : Fault} :
    s.readWord a = .error f ↔ s.params.addrOverflow = .fault ∧ a = 0xFFFF ∧ f = .readRange 0x10000 := by
  have hoor (n : Nat) : addrAdd s.params.addrOverflow a 1 = .oor n ↔
      s.params.addrOverflow = .fault ∧ a = 0xFFFF ∧ n = 0x10000 := by
    have hlt := a.isLt
    rw [addrAdd_eq_oor_iff, ← BitVec.toNat_inj]
    show _ ∧ 0x10000 ≤ a.toNat + 1 ∧ n = a.toNat + 1 ↔ _ ∧ a.toNat = 0xFFFF ∧ _
    exact and_congr_right fun _ => by omega
  constructor
  · intro h
    rw [State.readWord] at h
    cases hea : addrAdd s.params.addrOverflow a 1 with
    | addr b => rw [hea] at h; cases h
    | oor n =>
      rw [hea] at h
      cases h
      obtain ⟨hfault, htop, rfl⟩ := (hoor n).1 hea
      exact ⟨hfault, htop, rfl⟩
  · rintro ⟨hfault, htop, rfl⟩
    rw [State.readWord, (hoor _).2 ⟨hfault, htop, rfl⟩]
    rfl

end

/-! ## The forms that read an operand -/

/-- The mnemonics whose instructions read an operand (R220). -/
def operandReaders : List Mnemonic :=
  [.adc, .sbc, .cmp, .cpx, .cpy, .lda, .ldx, .ldy, .and, .ora, .eor, .bit, .inc, .dec, .asl, .lsr, .rol, .ror]

/-- The table of a reading mnemonic's forms. -/
def readingTable (m : Mnemonic) (b : Byte) (w : Word) : List Form :=
  match m with
  | .adc => adcForms b w
  | .sbc => sbcForms b w
  | .cmp => cmpForms b w
  | .cpx => cpxForms b w
  | .cpy => cpyForms b w
  | .lda => ldaForms b w
  | .ldx => ldxForms b w
  | .ldy => ldyForms b w
  | .and => andForms b w
  | .ora => oraForms b w
  | .eor => eorForms b w
  | .bit => bitForms b w
  | .inc => incForms b w
  | .dec => decForms b w
  | .asl => aslForms b w
  | .lsr => lsrForms b w
  | .rol => rolForms b w
  | .ror => rorForms b w
  | _ => []

/-- The operand byte an instruction carries; 0 where it carries none. -/
def operandByte (i : Instr) : Byte :=
  match i.operandField with
  | .byte b => b
  | _ => 0

/-- The operand word an instruction carries; 0 where it carries none. -/
def operandWord (i : Instr) : Word :=
  match i.operandField with
  | .word w => w
  | _ => 0

section
variable {b : Byte} {w : Word} {g : Form}

theorem mem_readingForms_iff : g ∈ readingForms b w ↔ ∃ m ∈ operandReaders, g ∈ readingTable m b w := by
  delta readingForms
  simp only [operandReaders, List.mem_append, List.mem_cons, List.not_mem_nil, or_false,
    exists_eq_or_imp, exists_eq_left, or_assoc]
  rfl

/-- A row of a mnemonic's table names an instruction of the mnemonic, and the operand form it carries. -/
theorem of_mem_readingTable {m : Mnemonic} (h : g ∈ readingTable m b w) :
    g.instr.mnemonic = m ∧ g.operand = operandOf g.instr := by
  have hrows : (readingTable m b w).map (fun g => (g.instr.mnemonic, g.operand)) =
      (readingTable m b w).map fun g => (m, operandOf g.instr) := by
    cases m <;> rfl
  exact Prod.mk.inj (List.map_inj_left.1 hrows g h)

theorem of_mem_readingForms (h : g ∈ readingForms b w) :
    g.instr.mnemonic ∈ operandReaders ∧ g.operand = operandOf g.instr := by
  obtain ⟨m, hm, hg⟩ := mem_readingForms_iff.1 h
  obtain ⟨rfl, hoperand⟩ := of_mem_readingTable hg
  exact ⟨hm, hoperand⟩

end

/-- The row of a reading instruction is the one of its mode in its mnemonic's table. -/
theorem find_readingTable (i : Instr) :
    ((readingTable i.mnemonic (operandByte i) (operandWord i)).find? fun g => modeOf g.operand == i.entry.mode).map
      Form.instr = if i.mnemonic ∈ operandReaders then some i else none := by
  cases i <;> rfl

theorem exists_mem_readingForms {i : Instr} (h : i.mnemonic ∈ operandReaders) :
    ∃ b w, ∃ g ∈ readingForms b w, g.instr = i := by
  have hfind := find_readingTable i
  rw [if_pos h, Option.map_eq_some_iff] at hfind
  obtain ⟨g, hg, hi⟩ := hfind
  exact ⟨_, _, g, mem_readingForms_iff.2 ⟨_, h, List.mem_of_find?_eq_some hg⟩, hi⟩

/-! ## The fatals of each shape of step -/

section
variable {i : Instr} {s : State} {f : Fault}

theorem logicOp_fault {o : Operand} {alu : Byte → Byte → Byte} :
    logicOp i o alu s = .fault f ↔ s.operand o = .error f := readOp_fault

theorem shiftOp_fault {o : Operand} {alu : Byte → Bool → ShiftResult} :
    shiftOp i o alu s = .fault f ↔ s.operand o = .error f := modifyOp_fault

theorem decimalCheck_fault {perform : Outcome} (h : decimalCheck i s perform = .fault f) : perform = .fault f := by
  obtain ⟨-, -, hr⟩ | ⟨-, hp⟩ := decimalCheck_cases i s perform
  · rw [hr] at h; cases h
  · rw [← hp, h]

theorem opJmpInd_fault {ptr : Word} : opJmpInd i ptr s = .fault f ↔ s.readWord ptr = .error f := by
  unfold opJmpInd
  cases s.readWord ptr <;> simp [State.finish]

/-- Only JMP has the indirect mode. -/
theorem eq_jmpInd_of_mode (h : i.entry.mode = .ind) : i = .jmpInd (targetOf i) := by
  cases i
  case jmpInd => rfl
  all_goals cases h

theorem opJmp_fault (h : opJmp i s = .fault f) : i = .jmpInd (targetOf i) ∧ s.readWord (targetOf i) = .error f := by
  unfold opJmp at h
  split at h
  · next hmode => exact ⟨eq_jmpInd_of_mode hmode, opJmpInd_fault.1 h⟩
  · cases h

/-! ## The fatals of every instruction -/

/-- A fatal of an instruction is that of its operand's read, or of the indirect jump's pointer. -/
theorem exec_fault (h : exec i s = .fault f) :
    i.mnemonic ∈ operandReaders ∧ s.operand (operandOf i) = .error f ∨
      ∃ ptr, i = .jmpInd ptr ∧ s.readWord ptr = .error f := by
  rw [exec_eq_performBy, performBy] at h
  cases hm : i.mnemonic <;> simp only [hm] at h
  case adc | sbc => exact .inl ⟨by decide, readOp_fault.1 (decimalCheck_fault h)⟩
  case cmp | cpx | cpy | lda | ldx | ldy | bit => exact .inl ⟨by decide, readOp_fault.1 h⟩
  case and | ora | eor => exact .inl ⟨by decide, logicOp_fault.1 h⟩
  case inc | dec => exact .inl ⟨by decide, modifyOp_fault.1 h⟩
  case asl | lsr | rol | ror => exact .inl ⟨by decide, shiftOp_fault.1 h⟩
  case jmp => exact .inr ⟨_, opJmp_fault h⟩
  all_goals cases h

/-- An operand that cannot be read is fatal, unless the instruction is refused before it reads (R225). -/
theorem exec_of_operand_error (hreads : i.mnemonic ∈ operandReaders)
    (hallowed : ¬(s.flags.d = true ∧ s.params.decimal = .refuse ∧ i.mnemonic ∈ [Mnemonic.adc, .sbc]))
    (h : s.operand (operandOf i) = .error f) : exec i s = .fault f := by
  rw [exec_eq_performBy, performBy]
  cases hm : i.mnemonic
  case adc | sbc =>
    obtain ⟨hd, hrefuse, -⟩ | ⟨-, hp⟩ := decimalCheck_cases i s _
    · exact absurd ⟨hd, hrefuse, by rw [hm]; decide⟩ hallowed
    · exact hp.trans (readOp_fault.2 h)
  case cmp | cpx | cpy | lda | ldx | ldy | bit => exact readOp_fault.2 h
  case and | ora | eor => exact logicOp_fault.2 h
  case inc | dec => exact modifyOp_fault.2 h
  case asl | lsr | rol | ror => exact shiftOp_fault.2 h
  all_goals exact absurd (hm ▸ hreads) (by decide)

theorem decodeAt_of_decode_at_pc {rest : List Byte} (h : decode s.params.opcodeSet s.wordOrder
    [s.read s.pc, s.read (s.pc + 1), s.read (s.pc + 2)] = .ok (i, rest)) : s.decodeAt = .ok i := by
  have hnext : s.pc + 2 = s.pc + 1 + 1 := by rw [BitVec.add_assoc]; rfl
  rw [hnext, ← fetchBytes_three] at h
  exact decodeAt_of_decode h

/-- The state a core fatal leaves: `pc` past the whole instruction, and the latch set (R227; log 22). -/
theorem afterFatal_readRange (h : s.decodeAt = .ok i) (n : Nat) : s.afterFatal (.readRange n) =
    { s with pc := s.pc + BitVec.ofNat 16 i.length, fatal := some (.readRange n) } := by
  rw [State.afterFatal, h]
  rfl

end

end Sys2Proof.Machine

open Sys2Proof Sys2Proof.Machine

/-- Settles O20: the fatals of an instruction are those of its reads, and a read is fatal at a sum out of range. -/
theorem coreFaultsAreOutOfRangeReads : Obligations.CoreFaultsAreOutOfRangeReads := by
  refine ⟨fun i s f h => ?_, fun b w g hg s n hallowed hplace => ?_, fun s hfault => ?_⟩
  · obtain ⟨hreads, hop⟩ | ⟨ptr, rfl, hptr⟩ := exec_fault h
    · obtain ⟨n, hplace, rfl⟩ := operand_error hop
      obtain ⟨hfault, hn, -⟩ := resolve_place_oor hplace
      obtain ⟨b, w, g, hg, rfl⟩ := exists_mem_readingForms hreads
      have hmode := entry_mode_of_place_oor hplace
      rw [← (of_mem_readingForms hg).2] at hplace
      exact ⟨hfault, n, rfl, hn, .inl ⟨hmode, b, w, g, hg, rfl, hplace⟩, fun _ hdec =>
        afterFatal_readRange (decodeAt_of_decode_at_pc hdec) n⟩
    · obtain ⟨hfault, rfl, rfl⟩ := readWord_eq_error_iff.1 hptr
      exact ⟨hfault, 0x10000, rfl, le_rfl, .inr ⟨rfl, rfl⟩, fun _ hdec =>
        afterFatal_readRange (decodeAt_of_decode_at_pc hdec) 0x10000⟩
  · obtain ⟨hreads, hoperand⟩ := of_mem_readingForms hg
    rw [hoperand] at hplace
    exact exec_of_operand_error hreads hallowed (operand_of_place hplace)
  · exact opJmpInd_fault.2 (readWord_eq_error_iff.2 ⟨hfault, rfl, rfl⟩)
end

section
/-! PROOF. What every completed step has done (40_execute_loop.md R80, 41_addressing_modes.md R112): each shape of step ends with the
charge of the instruction's base cost and its extra cycles, and leaves `pc` where the fetches left it unless it transfers control. -/

namespace Sys2Proof.Machine

/-- The mnemonics whose instructions transfer control (R150 to R162, R215, R216). -/
def transferMnemonics : List Mnemonic :=
  [.jmp, .jsr, .rts, .rti, .brk, .bcc, .bcs, .beq, .bmi, .bne, .bpl, .bvc, .bvs]

/-- The base cost and at most two cycles more have been charged, and `pc` is at the next instruction unless control was
transferred. -/
def Finished (i : Instr) (s t : State) : Prop :=
  (∃ extra ≤ 2, t.budget = (s.charge (i.entry.base + extra)).budget) ∧
    (i.mnemonic ∉ transferMnemonics → t.pc = (s.fetched i).pc)

@[simp] theorem writePlace_pc (u : State) (v : Byte) (p : Place) : (u.writePlace v p).pc = u.pc := by
  cases p with
  | value _ => rfl
  | acc => rfl
  | mem ea => cases ea <;> rfl

theorem adcApply_pc (m : Byte) (s : State) : (adcApply m s).pc = s.pc := by
  unfold adcApply
  split <;> rfl

theorem cost_false (i : Instr) : i.cost false = i.entry.base := by
  rw [Instr.cost, Bool.and_false]
  rfl

/-! ## Each shape of step -/

section
variable {i : Instr} {o : Operand} {s t : State}

/-- A charge of the cost ends a step that has kept the budget and, unless it transfers control, `pc`. -/
theorem finished_charge {u : State} {crossed : Bool} (hb : u.budget = s.budget)
    (hpc : i.mnemonic ∉ transferMnemonics → u.pc = (s.fetched i).pc) :
    Finished i s (u.charge (i.cost crossed)) := by
  have hextra : (i.entry.pen && crossed).toNat ≤ 2 := (Bool.toNat_le _).trans (by decide)
  refine ⟨⟨(i.entry.pen && crossed).toNat, hextra, ?_⟩, hpc⟩
  rw [State.charge_budget, State.charge_budget, hb, Instr.cost]

theorem impliedOp_finished {apply : State → State} (h : impliedOp i apply s = .next t)
    (ha : ∀ u, (apply u).budget = u.budget ∧ (apply u).pc = u.pc) : Finished i s t := by
  obtain ⟨hb, hpc⟩ := ha (s.fetched i)
  rw [impliedOp_next.1 h]
  exact finished_charge hb fun _ => hpc

theorem impliedOp_finished_of_transfer {apply : State → State} (h : impliedOp i apply s = .next t)
    (hm : i.mnemonic ∈ transferMnemonics) (hb : ∀ u, (apply u).budget = u.budget) : Finished i s t := by
  rw [impliedOp_next.1 h]
  exact finished_charge (hb (s.fetched i)) fun hnot => absurd hm hnot

theorem readOp_finished {apply : Byte → State → State} (h : readOp i o apply s = .next t)
    (ha : ∀ m u, (apply m u).budget = u.budget ∧ (apply m u).pc = u.pc) : Finished i s t := by
  obtain ⟨m, -, rfl⟩ := readOp_next.1 h
  obtain ⟨hb, hpc⟩ := ha m (s.fetched i)
  exact finished_charge hb fun _ => hpc

theorem logicOp_finished {alu : Byte → Byte → Byte} (h : logicOp i o alu s = .next t) : Finished i s t :=
  readOp_finished h fun _ _ => ⟨rfl, rfl⟩

theorem storeOp_finished {v : Byte} (h : storeOp i o v s = .next t) : Finished i s t := by
  rw [storeOp_next.1 h]
  exact finished_charge (writePlace_budget ..) fun _ => writePlace_pc ..

theorem modifyOp_finished {result : Byte → Byte} {flags : Byte → Flags → Flags}
    (h : modifyOp i o result flags s = .next t) : Finished i s t := by
  obtain ⟨v, -, rfl⟩ := modifyOp_next.1 h
  exact finished_charge (writePlace_budget ..) fun _ => writePlace_pc ..

theorem shiftOp_finished {alu : Byte → Bool → ShiftResult} (h : shiftOp i o alu s = .next t) : Finished i s t :=
  modifyOp_finished h

theorem branch_finished {off : Byte} {taken : Bool} (h : branch i off taken s = .next t)
    (hm : i.mnemonic ∈ transferMnemonics) : Finished i s t := by
  rw [branch_next.1 h, cost_false]
  refine ⟨⟨branchExtra taken (s.fetched i).pc (branchTarget (s.fetched i).pc off), branchExtra_le .., ?_⟩,
    fun hnot => absurd hm hnot⟩
  cases taken <;> rfl

theorem opJmp_finished (h : opJmp i s = .next t) (hm : i.mnemonic ∈ transferMnemonics) : Finished i s t := by
  unfold opJmp at h
  split at h
  · obtain ⟨_, -, rfl⟩ := opJmpInd_next.1 h
    exact finished_charge rfl fun hnot => absurd hm hnot
  · exact impliedOp_finished_of_transfer h hm fun _ => rfl

theorem decimalCheck_next {perform : Outcome} (h : decimalCheck i s perform = .next t) : perform = .next t := by
  obtain ⟨-, -, hr⟩ | ⟨-, hp⟩ := decimalCheck_cases i s perform
  · rw [hr] at h; cases h
  · rw [← hp, h]

end

/-! ## Every instruction -/

/-- The instruction of a mnemonic whose operation names it: those of 47 and 48, each with one form and no operand. -/
def soleInstr : Mnemonic → Option Instr
  | .pha => some .pha
  | .php => some .php
  | .pla => some .pla
  | .plp => some .plp
  | .tax => some .tax
  | .tay => some .tay
  | .txa => some .txa
  | .tya => some .tya
  | .tsx => some .tsx
  | .txs => some .txs
  | .clc => some .clc
  | .sec => some .sec
  | .cli => some .cli
  | .sei => some .sei
  | .cld => some .cld
  | .sed => some .sed
  | .clv => some .clv
  | .nop => some .nop
  | .brk => some .brk
  | .rti => some .rti
  | _ => none

theorem eq_of_soleInstr {i j : Instr} (h : soleInstr i.mnemonic = some j) : i = j := by
  cases i <;> cases h <;> rfl

theorem exec_finished {i : Instr} {s t : State} (h : exec i s = .next t) : Finished i s t := by
  rw [exec_eq_performBy, performBy] at h
  cases hm : i.mnemonic <;> simp only [hm] at h
  case adc =>
    exact readOp_finished (decimalCheck_next h) fun m u => ⟨adcApply_budget m u, adcApply_pc m u⟩
  case sbc => exact readOp_finished (decimalCheck_next h) fun _ _ => ⟨rfl, rfl⟩
  case cmp | cpx | cpy | lda | ldx | ldy | bit => exact readOp_finished h fun _ _ => ⟨rfl, rfl⟩
  case and | ora | eor => exact logicOp_finished h
  case sta | stx | sty => exact storeOp_finished h
  case inc | dec => exact modifyOp_finished h
  case asl | lsr | rol | ror => exact shiftOp_finished h
  case bcc | bcs | beq | bmi | bne | bpl | bvc | bvs => exact branch_finished h (by rw [hm]; decide)
  case jmp => exact opJmp_finished h (by rw [hm]; decide)
  case jsr | rts => exact impliedOp_finished_of_transfer h (by rw [hm]; decide) fun _ => rfl
  case inx | iny | dex | dey => exact impliedOp_finished h fun _ => ⟨rfl, rfl⟩
  case brk | rti =>
    obtain rfl := eq_of_soleInstr (congrArg soleInstr hm)
    exact impliedOp_finished_of_transfer h (by decide) fun _ => rfl
  all_goals
    obtain rfl := eq_of_soleInstr (congrArg soleInstr hm)
    exact impliedOp_finished h fun _ => ⟨rfl, rfl⟩

end Sys2Proof.Machine

open Sys2Proof Sys2Proof.Machine

/-- Settles O18: under `wrap` no sum is out of range, so an instruction that is not refused finishes. -/
theorem everyInstructionCompletes : Obligations.EveryInstructionCompletes := by
  intro i s hwrap hallowed
  cases h : exec i s with
  | next t =>
    obtain ⟨⟨extra, hle, hbudget⟩, hpc⟩ := exec_finished h
    exact ⟨t, extra, rfl, hle, hbudget, hpc⟩
  | fault f =>
    obtain ⟨hfault, -⟩ := coreFaultsAreOutOfRangeReads.1 i s f h
    rw [hwrap] at hfault
    cases hfault
  | refused r => exact absurd (exec_refused h) hallowed
end

section
/-! PROOF. What no step writes (10_state.md R30, R31, R33, 42_alu_and_flags.md R132): the frame of every instruction, and the
unrecognized opcode, which alone counts and emits (40_execute_loop.md R83). -/

namespace Sys2Proof.Machine

/-- Only an opcode without an entry leaves the decoder without an instruction. -/
theorem no_entry_of_decodeAt_error {s : State} {e : DecodeError} (h : s.decodeAt = .error e) :
    decodeEntry s.params.opcodeSet (s.read s.pc) = none := by
  by_contra hentry
  obtain ⟨entry, hentry⟩ := Option.ne_none_iff_exists'.1 hentry
  obtain ⟨i, hi, -⟩ := decodeAt_of_entry hentry
  rw [h] at hi
  cases hi

/-- The configuration and the stored B, which no instruction writes. -/
theorem exec_configuration {i : Instr} {s t : State} (h : exec i s = .next t) :
    t.flags.b = s.flags.b ∧ t.wordOrder = s.wordOrder ∧ t.params = s.params := by
  rw [exec_next_eq h]
  exact ⟨rfl, rfl, rfl⟩

end Sys2Proof.Machine

open Sys2Proof Sys2Proof.Machine

/-- Settles O21: a step counts an unrecognized opcode or runs an instruction; neither writes what the statement names, and the
former alone counts and emits. -/
theorem stepNeverWritesBOrConfiguration : Obligations.StepNeverWritesBOrConfiguration := by
  intro s t h
  obtain ⟨hs, ⟨⟨e, he⟩, -, rfl⟩ | ⟨i, -, -, hexec⟩⟩ := step_next h
  · obtain ⟨hfatal, hrefused, -⟩ := stopped_eq_none.1 hs
    exact ⟨rfl, rfl, rfl, rfl, rfl, hfatal, hrefused, fun _ => no_entry_of_decodeAt_error he⟩
  · obtain ⟨hfatal, hrefused, -⟩ := stopped_eq_none.1 hs
    obtain ⟨hb, horder, hparams⟩ := exec_configuration hexec
    obtain ⟨hreset, hf, hr, hcount, hevents, hsetup⟩ := exec_session hexec
    refine ⟨hb, horder, hsetup, hparams, hreset, hf.trans hfatal, hr.trans hrefused, ?_⟩
    rintro (hne | hne)
    · exact absurd hcount hne
    · exact absurd hevents hne
end

section
/-! PROOF. The forms that read an operand byte and only that (42_alu_and_flags.md R122, R127, R128): a row's instruction has the row's
opcode, length and cycles, so reading, applying and charging is the operation applied to the state past the row. -/

namespace Sys2Proof.Machine

open Sys2Proof.Claims

/-! ## Bytes -/

theorem getLsbD_seven (b : Byte) : b.getLsbD 7 = decide (128 ≤ b.toNat) :=
  (BitVec.msb_eq_getLsbD_last b).symm.trans b.msb_eq_decide

theorem getLsbD_six (b : Byte) : b.getLsbD 6 = decide (64 ≤ b.toNat % 128) := by
  rw [← BitVec.testBit_toNat, Nat.testBit_eq_decide_div_mod_eq]
  exact decide_eq_decide.2 (by omega)

/-- Z and N of a result as the ALU gives them and as numbers (R115, R116). -/
theorem setZN_eq_zn (f : Flags) (r : Byte) : f.setZN r = zn r f := by
  rw [Flags.setZN, zn, getLsbD_seven, beq_eq_decide]

/-! ## The rows of the instruction tables -/

/-- The operation of a reading mnemonic, on an instruction and its operand form. -/
def operationOf : Mnemonic → Instr → Operand → State → Outcome
  | .adc => opAdc
  | .sbc => opSbc
  | .cmp => opCmp
  | .cpx => opCpx
  | .cpy => opCpy
  | .lda => opLda
  | .ldx => opLdx
  | .ldy => opLdy
  | .and => opAnd
  | .ora => opOra
  | .eor => opEor
  | .bit => opBit
  | .inc => opInc
  | .dec => opDec
  | .asl => opAsl
  | .lsr => opLsr
  | .rol => opRol
  | .ror => opRor
  | _ => fun i _ s => exec i s

section
variable {m : Mnemonic} {b : Byte} {w : Word} {g : Form} (hg : g ∈ readingTable m b w)
include hg

/-- A row's instruction is run by its mnemonic's operation on the row's operand form. -/
theorem exec_of_mem_readingTable (s : State) : exec g.instr s = operationOf m g.instr g.operand s := by
  have hrows : (readingTable m b w).map (fun g => exec g.instr s) =
      (readingTable m b w).map fun g => operationOf m g.instr g.operand s := by
    cases m <;> rfl
  exact List.map_inj_left.1 hrows g hg

/-- The encoder's and the decoder's tables agree with the rows (R65, R75). -/
theorem columns_of_mem_readingTable : g.instr.opcode = g.opcode ∧ g.instr.length = g.bytes ∧
    g.instr.entry.base = g.cycles ∧ g.instr.entry.pen = g.pen := by
  have hrows : (readingTable m b w).map (fun g =>
        (g.instr.opcode, g.instr.length, g.instr.entry.base, g.instr.entry.pen)) =
      (readingTable m b w).map fun g => (g.opcode, g.bytes, g.cycles, g.pen) := by
    cases m <;> rfl
  simpa only [Prod.mk.injEq] using List.map_inj_left.1 hrows g hg

/-- Fetching a row's instruction and charging its cost is what the row says (R80, R112). -/
theorem charge_fetched_eq_past (s : State) :
    (s.fetched g.instr).charge (g.instr.cost (s.crosses g.operand)) = g.past s := by
  obtain ⟨-, hbytes, hbase, hpen⟩ := columns_of_mem_readingTable hg
  rw [State.fetched, Instr.cost, hbytes, hbase, hpen]
  rfl

/-! ## Reading -/

/-- A row read by `readOp` completes with the operation applied to the state past the row. -/
theorem exec_eq_next_of_readOp {apply : Byte → State → State} {s : State} {v : Byte}
    (hexec : exec g.instr s = readOp g.instr g.operand apply s)
    (hcharge : ∀ v u n, (apply v u).charge n = apply v (u.charge n)) (hv : s.operand g.operand = .ok v) :
    exec g.instr s = .next (apply v (g.past s)) := by
  rw [hexec, ← charge_fetched_eq_past hg, ← hcharge]
  exact readOp_next.2 ⟨v, hv, rfl⟩

/-- A row whose operation only reads: its effect may be stated on the state past the row. -/
theorem reads_of_readOp {effect : State → Byte → State → State} {apply : State → Byte → State → State}
    (hop : ∀ s, operationOf m g.instr g.operand s = readOp g.instr g.operand (apply s) s)
    (hcharge : ∀ s v u n, (apply s v u).charge n = apply s v (u.charge n))
    (heffect : ∀ s v, apply s v (g.past s) = effect s v (g.past s)) : g.Reads effect := by
  obtain ⟨hopcode, -⟩ := columns_of_mem_readingTable hg
  refine ⟨hopcode, fun s => ?_⟩
  have hexec := (exec_of_mem_readingTable hg s).trans (hop s)
  refine ⟨fun v hv => ?_, fun e he => ?_⟩
  · rw [exec_eq_next_of_readOp hg hexec (hcharge s) hv, heffect]
  · exact hexec.trans (readOp_fault.2 he)

end

/-! ## Compare -/

theorem toNat_sub_byte (x y : Byte) : (x - y).toNat = (x.toNat + 256 - y.toNat) % 256 := by
  have := y.isLt
  rw [BitVec.toNat_sub]
  omega

/-- A compare's flags as numbers (R122). -/
theorem aluCmp_eq (reg m : Byte) : aluCmp reg m =
    { c := decide (m.toNat ≤ reg.toNat), z := decide (reg = m),
      n := decide (128 ≤ (reg.toNat + 256 - m.toNat) % 256) } := by
  rw [aluCmp, beq_eq_decide, getLsbD_seven, toNat_sub_byte]

/-! ## Logic -/

/-- A byte whose bits are an operation on the bits of two others is that operation on the bytes. -/
theorem ofFnLE_eq_of_getLsbD {op : Bool → Bool → Bool} {x y r : Byte}
    (h : ∀ k, r.getLsbD k = op (x.getLsbD k) (y.getLsbD k)) :
    BitVec.ofFnLE (fun k : Fin 8 => op (x.getLsbD k) (y.getLsbD k)) = r := by
  refine BitVec.eq_of_getLsbD_eq fun k hk => ?_
  rw [BitVec.getLsbD_ofFnLE, dif_pos hk, h]

/-- A row of a logic instruction whose operation on bytes is `op` on their bits (R127). -/
theorem reads_of_logicOp {m : Mnemonic} {b : Byte} {w : Word} {g : Form} (hg : g ∈ readingTable m b w)
    {op : Bool → Bool → Bool} {alu : Byte → Byte → Byte}
    (hop : ∀ s, operationOf m g.instr g.operand s = logicOp g.instr g.operand alu s)
    (hbits : ∀ x y k, (alu x y).getLsbD k = op (x.getLsbD k) (y.getLsbD k)) :
    g.Reads fun s v t =>
      let r : Byte := BitVec.ofFnLE fun k => op (s.a.getLsbD k) (v.getLsbD k)
      { t with a := r, flags := zn r s.flags } := by
  refine reads_of_readOp hg hop (fun _ _ _ _ => rfl) fun s v => ?_
  simp only [ofFnLE_eq_of_getLsbD (hbits s.a v), State.setZN, setZN_eq_zn]
  rfl

/-- The AND of two bytes is zero exactly when they have no bit in common. -/
theorem and_eq_zero_iff (x y : Byte) :
    x &&& y = 0 ↔ ∀ k : Fin 8, ¬(x.getLsbD k = true ∧ y.getLsbD k = true) := by
  constructor
  · intro h k hk
    have hbit : (x &&& y).getLsbD k = false := by rw [h]; exact BitVec.getLsbD_zero
    rw [BitVec.getLsbD_and, hk.1, hk.2] at hbit
    cases hbit
  · intro h
    refine BitVec.eq_of_getLsbD_eq fun k hk => ?_
    simpa using h ⟨k, hk⟩

/-- BIT on an operand byte (R128). -/
def bitApply (m : Byte) (s : State) : State :=
  { s with flags := { s.flags with z := (s.a &&& m) == 0, n := m.getLsbD 7, v := m.getLsbD 6 } }

theorem opBit_eq_readOp (i : Instr) (o : Operand) (s : State) : opBit i o s = readOp i o bitApply s := rfl

/-- BIT's flags by the bits in common and the operand's number. -/
theorem bitApply_eq (m : Byte) (s : State) : bitApply m s = { s with flags := { s.flags with
    z := decide (∀ k : Fin 8, ¬(s.a.getLsbD k = true ∧ m.getLsbD k = true)),
    n := decide (128 ≤ m.toNat), v := decide (64 ≤ m.toNat % 128) } } := by
  simp only [bitApply, beq_eq_decide, and_eq_zero_iff, getLsbD_seven, getLsbD_six]

end Sys2Proof.Machine

open Sys2Proof Sys2Proof.Machine Sys2Proof.Claims

/-- Settles O38: a compare's flags as numbers, for each of the three registers. -/
theorem compareResult : Obligations.CompareResult := by
  intro b w effect
  have hcmp (reg : State → Byte) (f : Form) (s : State) (v : Byte) :
      cmpApply (reg s) v (f.past s) = effect reg s v (f.past s) := by
    simp only [cmpApply, aluCmp_eq]
    rfl
  exact ⟨fun f hf => reads_of_readOp (m := .cmp) hf (fun _ => rfl) (fun _ _ _ _ => rfl) (hcmp State.a f),
    fun f hf => reads_of_readOp (m := .cpx) hf (fun _ => rfl) (fun _ _ _ _ => rfl) (hcmp State.x f),
    fun f hf => reads_of_readOp (m := .cpy) hf (fun _ => rfl) (fun _ _ _ _ => rfl) (hcmp State.y f)⟩

/-- Settles O43: the three operations on bytes are those on their bits. -/
theorem logicResult : Obligations.LogicResult := by
  intro b w effect
  exact ⟨fun f hf => reads_of_logicOp (m := .and) hf (fun _ => rfl) fun _ _ _ => BitVec.getLsbD_and,
    fun f hf => reads_of_logicOp (m := .ora) hf (fun _ => rfl) fun _ _ _ => BitVec.getLsbD_or,
    fun f hf => reads_of_logicOp (m := .eor) hf (fun _ => rfl) fun _ _ _ => BitVec.getLsbD_xor⟩

/-- Settles O44: the AND is zero where no bit is common, and bits 7 and 6 are comparisons of the operand's number. -/
theorem bitTestResult : Obligations.BitTestResult := by
  intro b w f hf
  refine reads_of_readOp (m := .bit) hf (opBit_eq_readOp _ _) (fun _ _ _ _ => rfl) fun s v => ?_
  rw [bitApply_eq]
  rfl
end

section
/-! PROOF. The read-modify-write forms (42_alu_and_flags.md R123 to R126, R129): where the result goes, and the results as numbers. -/

namespace Sys2Proof.Machine

open Sys2Proof.Claims

section
variable {m : Mnemonic} {b : Byte} {w : Word} {g : Form} (hg : g ∈ readingTable m b w)
include hg

/-- A write back before the charge is a write back to the state past the row. -/
theorem charge_writePlace_eq_past (s : State) (v : Byte) (fl : Flags) (p : Place) :
    State.charge { (s.fetched g.instr).writePlace v p with flags := fl } (g.instr.cost (s.crosses g.operand)) =
      { (g.past s).writePlace v p with flags := fl } := by
  rw [← charge_fetched_eq_past hg]
  rcases p with _ | _ | ⟨_ | _⟩ <;> rfl

/-- A row run by `modifyOp`: the relation need hold only of the result byte and the flags computed. -/
theorem modifies_of_modifyOp {rel : State → Byte → Byte → Flags → Prop} {result : State → Byte → Byte}
    {flags : State → Byte → Flags → Flags}
    (hop : ∀ s, operationOf m g.instr g.operand s = modifyOp g.instr g.operand (result s) (flags s) s)
    (hrel : ∀ s v, rel s v (result s v) (flags s v s.flags)) : g.Modifies rel := by
  obtain ⟨hopcode, -⟩ := columns_of_mem_readingTable hg
  refine ⟨hopcode, fun s hs => ?_⟩
  have hexec := (exec_of_mem_readingTable hg s).trans (hop s)
  refine ⟨fun v hv => ?_, fun e he => hexec.trans (modifyOp_fault.2 he)⟩
  refine ⟨_, result s v, hexec.trans (modifyOp_next.2 ⟨v, hv, rfl⟩), hrel s v, fun a ha => ?_, fun hacc => ?_⟩
  · rw [charge_writePlace_eq_past hg, ha]
    exact ⟨rfl, State.read_write_same (s := g.past s) hs a _,
      fun c hc => State.read_write_of_ne (s := g.past s) hs hc _⟩
  · rw [charge_writePlace_eq_past hg, hacc]
    rfl

end

/-! ## Increment and decrement -/

theorem toNat_aluInc (v : Byte) : (aluInc v).toNat = (v.toNat + 1) % 256 := BitVec.toNat_add ..

theorem toNat_aluDec (v : Byte) : (aluDec v).toNat = (v.toNat + 255) % 256 := toNat_sub_one v

/-- A row of INC or DEC, with the result as a number. -/
theorem modifies_of_setZN {m : Mnemonic} {b : Byte} {w : Word} {g : Form} (hg : g ∈ readingTable m b w)
    {alu : Byte → Byte} {value : Byte → Nat}
    (hop : ∀ s, operationOf m g.instr g.operand s =
      modifyOp g.instr g.operand alu (fun v f => f.setZN (alu v)) s)
    (halu : ∀ v, (alu v).toNat = value v) :
    g.Modifies fun s v r fl => r.toNat = value v ∧ fl = zn r s.flags :=
  modifies_of_modifyOp hg hop fun s v => ⟨halu v, setZN_eq_zn s.flags (alu v)⟩

/-! ## Shifts and rotates -/

/-- The result as a number is `value` of the byte and C, and the bit shifted out is `out` of the byte. -/
structure ShiftsTo (alu : Byte → Bool → ShiftResult) (value : Byte → Nat → Nat) (out : Byte → Bool) : Prop where
  value : ∀ v c, (alu v c).r.toNat = value v (bit c)
  out : ∀ v c, (alu v c).c = out v

theorem toNat_shiftLeft_one (v : Byte) : (v <<< 1).toNat = 2 * v.toNat % 256 := by
  rw [BitVec.toNat_shiftLeft, Nat.shiftLeft_eq, Nat.mul_comm]

theorem toNat_ushiftRight_one (v : Byte) : (v >>> 1).toNat = v.toNat / 2 := by
  rw [BitVec.toNat_ushiftRight, Nat.shiftRight_eq_div_pow]

theorem getLsbD_lowest (v : Byte) : v.getLsbD 0 = decide (v.toNat % 2 = 1) := by
  rw [← BitVec.testBit_toNat, Nat.testBit_zero]

theorem toNat_ofNat_bit (c : Bool) : (BitVec.ofNat 8 c.toNat).toNat = bit c := by
  cases c <;> rfl

theorem bit_le (c : Bool) : bit c ≤ 1 := Bool.toNat_le c

theorem aluAsl_shiftsTo :
    ShiftsTo (fun v _ => aluAsl v) (fun v _ => 2 * v.toNat % 256) (fun v => decide (128 ≤ v.toNat)) :=
  ⟨fun v _ => toNat_shiftLeft_one v, fun v _ => getLsbD_seven v⟩

theorem aluLsr_shiftsTo :
    ShiftsTo (fun v _ => aluLsr v) (fun v _ => v.toNat / 2) (fun v => decide (v.toNat % 2 = 1)) :=
  ⟨fun v _ => toNat_ushiftRight_one v, fun v _ => getLsbD_lowest v⟩

/-- A rotate left puts C into the bit the shift cleared (R125). -/
theorem aluRol_shiftsTo :
    ShiftsTo aluRol (fun v c => 2 * v.toNat % 256 + c) (fun v => decide (128 ≤ v.toNat)) := by
  refine ⟨fun v c => ?_, fun v _ => getLsbD_seven v⟩
  have hc : bit c < 2 ^ 1 := Nat.lt_succ_of_le (bit_le c)
  have heven : 2 * v.toNat % 256 = 2 ^ 1 * (v.toNat % 128) := by omega
  rw [aluRol, BitVec.toNat_or, toNat_shiftLeft_one, toNat_ofNat_bit, heven, Nat.two_pow_add_eq_or_of_lt hc]

/-- A rotate right puts C into the bit the shift cleared (R126). -/
theorem aluRor_shiftsTo :
    ShiftsTo aluRor (fun v c => v.toNat / 2 + 128 * c) (fun v => decide (v.toNat % 2 = 1)) := by
  refine ⟨fun v c => ?_, fun v _ => getLsbD_lowest v⟩
  have hv : v.toNat / 2 < 2 ^ 7 := by omega
  have hc : (BitVec.ofNat 8 c.toNat <<< 7).toNat = 2 ^ 7 * bit c := by cases c <;> rfl
  rw [aluRor, BitVec.toNat_or, toNat_ushiftRight_one, hc, Nat.lor_comm, ← Nat.two_pow_add_eq_or_of_lt hv]
  omega

/-- A row of a shift instruction, with the result and the bit shifted out as numbers. -/
theorem modifies_of_shiftOp {m : Mnemonic} {b : Byte} {w : Word} {g : Form} (hg : g ∈ readingTable m b w)
    {alu : Byte → Bool → ShiftResult} {value : Byte → Nat → Nat} {out : Byte → Bool}
    (hop : ∀ s, operationOf m g.instr g.operand s = shiftOp g.instr g.operand alu s)
    (halu : ShiftsTo alu value out) :
    g.Modifies fun s v r fl => r.toNat = value v (bit s.flags.c) ∧ fl = zn r { s.flags with c := out v } := by
  refine modifies_of_modifyOp hg hop fun s v => ⟨halu.value v s.flags.c, ?_⟩
  rw [setZN_eq_zn, halu.out]

end Sys2Proof.Machine

open Sys2Proof Sys2Proof.Machine Sys2Proof.Claims

/-- Settles O39: the byte and its successor or predecessor, which gives Z and N. -/
theorem incrementMemoryResult : Obligations.IncrementMemoryResult := by
  intro b w
  exact ⟨fun f hf => modifies_of_setZN (m := .inc) hf (fun _ => rfl) toNat_aluInc,
    fun f hf => modifies_of_setZN (m := .dec) hf (fun _ => rfl) toNat_aluDec⟩

/-- Settles O45: each of the four ALU functions in numbers. -/
theorem shiftResult : Obligations.ShiftResult := by
  intro b w row
  exact ⟨fun f hf => modifies_of_shiftOp (m := .asl) hf (fun _ => rfl) aluAsl_shiftsTo,
    fun f hf => modifies_of_shiftOp (m := .lsr) hf (fun _ => rfl) aluLsr_shiftsTo,
    fun f hf => modifies_of_shiftOp (m := .rol) hf (fun _ => rfl) aluRol_shiftsTo,
    fun f hf => modifies_of_shiftOp (m := .ror) hf (fun _ => rfl) aluRor_shiftsTo⟩
end

section
/-! PROOF. ADC and SBC (42_alu_and_flags.md R118 to R121, R130, R131): the ALU's results in numbers, then the instructions. -/

namespace Sys2Proof.Machine

open Sys2Proof.Claims

/-! ## Bytes as signed and unsigned numbers -/

theorem toInt_byte (x : Byte) : x.toInt = signedByte x.toNat := by
  rw [BitVec.toInt_eq_toNat_cond, signedByte]
  exact if_congr (by omega) rfl rfl

theorem toNat_ofInt_byte (n : Int) : ((BitVec.ofInt 8 n).toNat : Int) = n % 256 := by
  rw [BitVec.toNat_ofInt, Int.toNat_of_nonneg (Int.emod_nonneg n (by decide))]
  rfl

/-! ## The binary sum -/

/-- The sum of R118 before it is cut to a byte. -/
theorem toNat_aluAdc_r (a m : Byte) (c : Bool) :
    (aluAdc a m c).r.toNat = (a.toNat + m.toNat + bit c) % 256 := BitVec.toNat_ofNat ..

theorem aluAdc_c_iff (a m : Byte) (c : Bool) :
    (aluAdc a m c).c = true ↔ 256 ≤ a.toNat + m.toNat + bit c := decide_eq_true_iff

/-- Overflow by signs: operands of one sign and a result of the other (R118). -/
theorem aluAdc_v_iff (a m : Byte) (c : Bool) : (aluAdc a m c).v = true ↔
    a.getLsbD 7 = m.getLsbD 7 ∧ (aluAdc a m c).r.getLsbD 7 ≠ a.getLsbD 7 := by
  simp [aluAdc]

/-- Overflow by range: the signed sum is not a byte's (R120). -/
theorem aluAdc_v_iff_outOfByteRange (a m : Byte) (c : Bool) :
    (aluAdc a m c).v = true ↔ OutOfByteRange (a.toInt + m.toInt + bit c) := by
  have ha := a.isLt
  have hm := m.isLt
  have hc := bit_le c
  rw [aluAdc_v_iff, getLsbD_seven, getLsbD_seven, getLsbD_seven, toNat_aluAdc_r, toInt_byte, toInt_byte,
    OutOfByteRange, signedByte, signedByte, ne_eq, decide_eq_decide, decide_eq_decide]
  split <;> split <;> omega

/-! ## The binary difference -/

theorem toNat_not_byte (m : Byte) : (~~~m).toNat = 255 - m.toNat := BitVec.toNat_not

theorem toNat_aluSbc_r (a m : Byte) (c : Bool) :
    ((aluSbc a m c).r.toNat : Int) = ((a.toNat : Int) - m.toNat - (1 - bit c)) % 256 := by
  have := m.isLt
  rw [aluSbc, toNat_aluAdc_r, toNat_not_byte]
  omega

/-- C is set when nothing is borrowed (R121). -/
theorem aluSbc_c_iff (a m : Byte) (c : Bool) :
    (aluSbc a m c).c = true ↔ 0 ≤ (a.toNat : Int) - m.toNat - (1 - bit c) := by
  have := m.isLt
  rw [aluSbc, aluAdc_c_iff, toNat_not_byte]
  omega

theorem aluSbc_v_iff (a m : Byte) (c : Bool) : (aluSbc a m c).v = true ↔
    a.getLsbD 7 ≠ m.getLsbD 7 ∧ (aluSbc a m c).r.getLsbD 7 ≠ a.getLsbD 7 := by
  rw [aluSbc, aluAdc_v_iff, BitVec.getLsbD_not]
  cases a.getLsbD 7 <;> cases m.getLsbD 7 <;> simp

/-! ## The instructions -/

section
variable {i : Instr} {o : Operand} {s : State}

theorem not_refusing_of_allowed (h : s.flags.d = false ∨ s.params.decimal ≠ .refuse) :
    ¬(s.flags.d = true ∧ s.params.decimal = .refuse) := by
  rintro ⟨hd, hrefuse⟩
  rw [hd] at h
  exact h.resolve_left nofun hrefuse

theorem decimalCheck_of_allowed (h : s.flags.d = false ∨ s.params.decimal ≠ .refuse) (perform : Outcome) :
    decimalCheck i s perform = perform := by
  obtain ⟨hd, hrefuse, -⟩ | ⟨-, hp⟩ := decimalCheck_cases i s perform
  · exact absurd ⟨hd, hrefuse⟩ (not_refusing_of_allowed h)
  · exact hp

theorem allowed_of_binary (h : s.flags.d = false ∨ s.params.decimal = .binary) :
    s.flags.d = false ∨ s.params.decimal ≠ .refuse := by
  refine h.imp_right fun hbinary => ?_
  rw [hbinary]
  decide

theorem decimalOn_of_binary (h : s.flags.d = false ∨ s.params.decimal = .binary) : s.decimalOn = false := by
  rcases h with h | h
  · rw [State.decimalOn, h, Bool.false_and]
  · rw [State.decimalOn, h, show (DecimalMode.binary == .nmosBcd) = false from rfl, Bool.and_false]

theorem decimalOn_of_nmosBcd (hd : s.flags.d = true) (h : s.params.decimal = .nmosBcd) : s.decimalOn = true := by
  rw [State.decimalOn, hd, h]
  rfl

theorem allowed_of_nmosBcd (h : s.params.decimal = .nmosBcd) : s.flags.d = false ∨ s.params.decimal ≠ .refuse := by
  right
  rw [h]
  decide

theorem adcApply_of_binary {m : Byte} (h : s.decimalOn = false) : adcApply m s =
    let r := aluAdc s.a m s.flags.c
    { s with a := r.r, flags := zn r.r { s.flags with c := r.c, v := r.v } } := by
  rw [adcApply, h]
  simp only [setZN_eq_zn]
  rfl

theorem adcApply_of_decimal {m : Byte} (h : s.decimalOn = true) : adcApply m s =
    let r := aluAdcBcd s.a m s.flags.c
    { s with a := r.r, flags := { s.flags with c := r.c, z := r.z, v := r.v, n := r.n } } := by
  rw [adcApply, if_pos h]

theorem adcApply_charge (m : Byte) (s : State) (n : Nat) :
    (adcApply m s).charge n = adcApply m (s.charge n) := by
  rw [adcApply, adcApply, show (s.charge n).decimalOn = s.decimalOn from rfl]
  split <;> rfl

theorem sbcApply_of_binary {m : Byte} (h : s.decimalOn = false) : sbcApply m s =
    let r := aluSbc s.a m s.flags.c
    { s with a := r.r, flags := zn r.r { s.flags with c := r.c, v := r.v } } := by
  rw [sbcApply, h]
  simp only [setZN_eq_zn]
  rfl

/-- Under decimal mode the flags are those of the binary difference (R131). -/
theorem sbcApply_of_decimal {m : Byte} (h : s.decimalOn = true) : sbcApply m s =
    let r := aluSbc s.a m s.flags.c
    { s with a := aluSbcBcd s.a m s.flags.c, flags := zn r.r { s.flags with c := r.c, v := r.v } } := by
  rw [sbcApply, h]
  simp only [setZN_eq_zn]
  rfl

/-- Where the decimal check lets it through, an instruction is fatal at an operand it cannot read (R225). -/
theorem exec_of_operand_error_of_allowed {m : Mnemonic} {b : Byte} {w : Word} {g : Form} {e : Fault}
    (hg : g ∈ readingTable m b w) (hm : m ∈ operandReaders)
    (hallowed : s.flags.d = false ∨ s.params.decimal ≠ .refuse) (he : s.operand g.operand = .error e) :
    exec g.instr s = .fault e := by
  obtain ⟨rfl, hoperand⟩ := of_mem_readingTable hg
  exact exec_of_operand_error hm (fun ⟨hd, hrefuse, _⟩ => not_refusing_of_allowed hallowed ⟨hd, hrefuse⟩)
    (hoperand ▸ he)

end

section
variable {b : Byte} {w : Word} {g : Form} {s : State} {m : Byte}
  (hallowed : s.flags.d = false ∨ s.params.decimal ≠ .refuse) (hm : s.operand g.operand = .ok m)
include hallowed hm

theorem exec_adc (hg : g ∈ adcForms b w) : exec g.instr s = .next (adcApply m (g.past s)) :=
  exec_eq_next_of_readOp (m := .adc) hg
    ((exec_of_mem_readingTable (m := .adc) hg s).trans (decimalCheck_of_allowed hallowed _)) adcApply_charge hm

theorem exec_sbc (hg : g ∈ sbcForms b w) : exec g.instr s = .next (sbcApply m (g.past s)) :=
  exec_eq_next_of_readOp (m := .sbc) hg
    ((exec_of_mem_readingTable (m := .sbc) hg s).trans (decimalCheck_of_allowed hallowed _))
    (fun _ _ _ => rfl) hm

end

/-! ## Decimal digits -/

theorem toNat_eq_bit (c : Bool) : c.toNat = bit c := rfl

theorem toNat_bcd {n : Nat} (h : n < 100) : (bcd n).toNat = 16 * (n / 10) + n % 10 := by
  rw [bcd, BitVec.toNat_ofNat, Nat.mod_eq_of_lt (by omega)]

theorem lowDigit_bcd {n : Nat} (h : n < 100) : lowDigit (bcd n) = n % 10 := by
  rw [lowDigit, toNat_bcd h]
  omega

theorem highDigit_bcd {n : Nat} (h : n < 100) : highDigit (bcd n) = 16 * (n / 10) := by
  rw [highDigit, toNat_bcd h]
  omega

theorem toNat_and_0x0F_eq_lowDigit (x : Byte) : (x &&& 0x0F).toNat = lowDigit x := toNat_and_0x0F x

theorem toNat_and_0xF0_eq_highDigit (x : Byte) : (x &&& 0xF0).toNat = highDigit x := toNat_and_0xF0 x

theorem s8_and_0xF0 (x : Byte) : s8 (x &&& 0xF0) = signedByte (highDigit x) := by
  rw [s8, toInt_byte, toNat_and_0xF0_eq_highDigit]

/-! ## The decimal sum -/

/-- R130's `al`: the sum of the low digits, adjusted. -/
def adcLow (a m : Byte) (c : Nat) : Nat :=
  if 10 ≤ lowDigit a + lowDigit m + c then (lowDigit a + lowDigit m + c + 6) % 16 + 16
  else lowDigit a + lowDigit m + c

/-- R130's `s`: the sum before its high digit is adjusted. -/
def adcSum (a m : Byte) (c : Nat) : Nat := highDigit a + highDigit m + adcLow a m c

/-- R130's `s` adjusted. -/
def adcAdjusted (a m : Byte) (c : Nat) : Nat := if 160 ≤ adcSum a m c then adcSum a m c + 96 else adcSum a m c

/-- R130's `ss`: the sum with the high digits signed. -/
def adcSigned (a m : Byte) (c : Nat) : Int :=
  signedByte (highDigit a) + signedByte (highDigit m) + (adcLow a m c : Int)

theorem cast_adcLow (a m : Byte) (c : Nat) : (adcLow a m c : Int) =
    if (10 : Int) ≤ lowDigit a + lowDigit m + c then ((lowDigit a + lowDigit m + c : Int) + 6) % 16 + 16
    else lowDigit a + lowDigit m + c := by
  rw [adcLow]
  split <;> split <;> omega

theorem cast_adcSum (a m : Byte) (c : Nat) :
    (adcSum a m c : Int) = (highDigit a : Int) + highDigit m + adcLow a m c := rfl

theorem cast_adcAdjusted (a m : Byte) (c : Nat) : (adcAdjusted a m c : Int) =
    if (160 : Int) ≤ adcSum a m c then (adcSum a m c : Int) + 96 else adcSum a m c := by
  rw [adcAdjusted]
  split <;> split <;> omega

/-- The adjustment of the high digit is what carries (R130). -/
theorem le_adcAdjusted_iff (a m : Byte) (c : Nat) : 256 ≤ adcAdjusted a m c ↔ 160 ≤ adcSum a m c := by
  rw [adcAdjusted]
  split <;> omega

/-- The decimal sum of the ALU in numbers (R130). -/
theorem aluAdcBcd_eq (a m : Byte) (c : Bool) : aluAdcBcd a m c =
    { r := BitVec.ofNat 8 (adcAdjusted a m (bit c))
      c := decide (160 ≤ adcSum a m (bit c))
      z := decide ((a.toNat + m.toNat + bit c) % 256 = 0)
      v := decide (adcSigned a m (bit c) < -128) || decide (127 < adcSigned a m (bit c))
      n := decide (128 ≤ adcSum a m (bit c) % 256) } := by
  have hcarry : (256 : Int) ≤ adcAdjusted a m (bit c) ↔ 160 ≤ adcSum a m (bit c) := by
    rw [← le_adcAdjusted_iff]
    exact Int.ofNat_le
  simp only [aluAdcBcd, toNat_and_0x0F_eq_lowDigit, toNat_and_0xF0_eq_highDigit, s8_and_0xF0, toNat_eq_bit,
    ← cast_adcLow, ← cast_adcSum, ← cast_adcAdjusted, hcarry, BitVec.ofInt_natCast, getLsbD_seven,
    BitVec.toNat_ofNat]
  rfl

/-- On two decimal digits each, the sum has the digits of the decimal sum, its tens in one digit of base 16. -/
theorem adcSum_bcd {p q c : Nat} (hp : p < 100) (hq : q < 100) (hc : c ≤ 1) :
    adcSum (bcd p) (bcd q) c = 16 * ((p + q + c) / 10) + (p + q + c) % 10 := by
  rw [adcSum, adcLow, lowDigit_bcd hp, lowDigit_bcd hq, highDigit_bcd hp, highDigit_bcd hq]
  split <;> omega

/-- Adjusting the tens gives the decimal sum modulo 100, with a carry from 100 on (R130, "BCD-valid inputs"). -/
theorem adcAdjusted_bcd {p q c : Nat} (hp : p < 100) (hq : q < 100) (hc : c ≤ 1) :
    BitVec.ofNat 8 (adcAdjusted (bcd p) (bcd q) c) = bcd ((p + q + c) % 100) := by
  have hn : p + q + c < 200 := by omega
  apply BitVec.eq_of_toNat_eq
  rw [toNat_bcd (Nat.mod_lt _ (by decide)), BitVec.toNat_ofNat, adcAdjusted, adcSum_bcd hp hq hc]
  generalize p + q + c = n at hn
  rcases Nat.lt_or_ge n 100 with hlt | hge
  · rw [if_neg (by omega)]
    omega
  · rw [if_pos (by omega)]
    omega

theorem le_adcSum_bcd_iff {p q c : Nat} (hp : p < 100) (hq : q < 100) (hc : c ≤ 1) :
    160 ≤ adcSum (bcd p) (bcd q) c ↔ 100 ≤ p + q + c := by
  rw [adcSum_bcd hp hq hc]
  omega

/-! ## The decimal difference -/

/-- R131's `al`: the difference of the low digits, adjusted. -/
def sbcLow (a m : Byte) (c : Int) : Int :=
  if (lowDigit a : Int) - lowDigit m + c - 1 < 0 then ((lowDigit a : Int) - lowDigit m + c - 1 - 6) % 16 - 16
  else lowDigit a - lowDigit m + c - 1

/-- R131's `s`: the difference before its high digit is adjusted. -/
def sbcSum (a m : Byte) (c : Int) : Int := highDigit a - highDigit m + sbcLow a m c

/-- R131's `s` adjusted. -/
def sbcAdjusted (a m : Byte) (c : Int) : Int := if sbcSum a m c < 0 then sbcSum a m c - 96 else sbcSum a m c

/-- The decimal difference of the ALU in numbers (R131). -/
theorem aluSbcBcd_eq (a m : Byte) (c : Bool) : aluSbcBcd a m c = BitVec.ofInt 8 (sbcAdjusted a m (bit c)) := by
  simp only [aluSbcBcd, toNat_and_0x0F_eq_lowDigit, toNat_and_0xF0_eq_highDigit, toNat_eq_bit]
  rfl

/-- On two decimal digits each, the difference has the digits of the decimal one, its tens in one digit of base 16. -/
theorem sbcSum_bcd {p q : Nat} {c : Int} (hp : p < 100) (hq : q < 100) (hc : 0 ≤ c ∧ c ≤ 1) :
    sbcSum (bcd p) (bcd q) c = 16 * (((p : Int) - q - (1 - c)) / 10) + ((p : Int) - q - (1 - c)) % 10 := by
  rw [sbcSum, sbcLow, lowDigit_bcd hp, lowDigit_bcd hq, highDigit_bcd hp, highDigit_bcd hq]
  split <;> omega

/-- Adjusting the tens gives the decimal difference modulo 100. -/
theorem sbcAdjusted_bcd {p q : Nat} {c : Int} (hp : p < 100) (hq : q < 100) (hc : 0 ≤ c ∧ c ≤ 1) :
    BitVec.ofInt 8 (sbcAdjusted (bcd p) (bcd q) c) = bcd (((p : Int) - q - (1 - c)) % 100).toNat := by
  have hn : -100 ≤ (p : Int) - q - (1 - c) ∧ (p : Int) - q - (1 - c) < 100 := by omega
  apply BitVec.eq_of_toNat_eq
  rw [← Int.natCast_inj, toNat_ofInt_byte, toNat_bcd (by omega), sbcAdjusted, sbcSum_bcd hp hq hc]
  generalize (p : Int) - q - (1 - c) = n at hn
  rcases Int.lt_or_le n 0 with hneg | hge
  · rw [if_pos (by omega)]
    omega
  · rw [if_neg (by omega)]
    omega

/-- Z of the binary difference (R121). -/
theorem aluSbc_r_eq_zero_iff (a m : Byte) (c : Bool) :
    (aluSbc a m c).r = 0 ↔ ((a.toNat : Int) - m.toNat - (1 - bit c)) % 256 = 0 := by
  rw [← toNat_aluSbc_r, ← BitVec.toNat_inj, Int.natCast_eq_zero]
  rfl

/-- N of the binary difference (R121). -/
theorem le_aluSbc_r_iff (a m : Byte) (c : Bool) :
    128 ≤ (aluSbc a m c).r.toNat ↔ 128 ≤ ((a.toNat : Int) - m.toNat - (1 - bit c)) % 256 := by
  rw [← toNat_aluSbc_r]
  exact Int.ofNat_le.symm

end Sys2Proof.Machine

open Sys2Proof Sys2Proof.Machine Sys2Proof.Claims

/-- Settles O34: the binary sum in numbers; an operand that cannot be read stops the instruction before the sum. -/
theorem adcBinaryResult : Obligations.AdcBinaryResult := by
  intro b w f hf
  obtain ⟨hopcode, -⟩ := columns_of_mem_readingTable (m := .adc) hf
  refine ⟨hopcode, fun s => ⟨fun m hbinary hm => ?_, fun e hallowed he => ?_⟩⟩
  · have hexec := exec_adc (allowed_of_binary hbinary) hm hf
    rw [adcApply_of_binary (s := f.past s) (decimalOn_of_binary hbinary)] at hexec
    exact ⟨_, hexec, toNat_aluAdc_r .., aluAdc_c_iff .., aluAdc_v_iff_outOfByteRange .., rfl⟩
  · exact exec_of_operand_error_of_allowed (m := .adc) hf (by decide) hallowed he

/-- Settles O35: the binary difference in numbers, as the sum with the complement. -/
theorem sbcBinaryResult : Obligations.SbcBinaryResult := by
  intro b w f hf
  obtain ⟨hopcode, -⟩ := columns_of_mem_readingTable (m := .sbc) hf
  refine ⟨hopcode, fun s => ⟨fun m hbinary hm => ?_, fun e hallowed he => ?_⟩⟩
  · have hexec := exec_sbc (allowed_of_binary hbinary) hm hf
    rw [sbcApply_of_binary (s := f.past s) (decimalOn_of_binary hbinary)] at hexec
    exact ⟨_, hexec, toNat_aluSbc_r .., aluSbc_c_iff .., aluSbc_v_iff .., rfl⟩
  · exact exec_of_operand_error_of_allowed (m := .sbc) hf (by decide) hallowed he

/-- Settles O36: the decimal sum in numbers, which on decimal digits is that of the numbers the digits write. -/
theorem adcDecimalResult : Obligations.AdcDecimalResult := by
  intro b w f hf s m hd hbcd hm c low al sum ss
  have hexec := exec_adc (allowed_of_nmosBcd hbcd) hm hf
  rw [adcApply_of_decimal (s := f.past s) (decimalOn_of_nmosBcd hd hbcd), aluAdcBcd_eq] at hexec
  refine ⟨_, hexec, BitVec.toNat_ofNat .., decide_eq_true_iff, decide_eq_true_iff, ?_, decide_eq_true_iff, rfl,
    fun p q hp hq hap hmq => ?_⟩
  · exact Bool.or_eq_true_iff.trans (or_congr decide_eq_true_iff decide_eq_true_iff)
  · have hc := bit_le s.flags.c
    show BitVec.ofNat 8 (adcAdjusted s.a m c) = _ ∧ (decide (160 ≤ adcSum s.a m c) = true ↔ _)
    rw [hap, hmq, adcAdjusted_bcd hp hq hc, decide_eq_true_iff, le_adcSum_bcd_iff hp hq hc]
    exact ⟨rfl, Iff.rfl⟩

/-- Settles O37: the decimal difference in numbers, with the flags of the binary one. -/
theorem sbcDecimalResult : Obligations.SbcDecimalResult := by
  intro b w f hf s m hd hbcd hm c low al sum diff
  have hexec := exec_sbc (allowed_of_nmosBcd hbcd) hm hf
  rw [sbcApply_of_decimal (s := f.past s) (decimalOn_of_nmosBcd hd hbcd), aluSbcBcd_eq] at hexec
  refine ⟨_, hexec, toNat_ofInt_byte _, aluSbc_c_iff .., ?_, ?_, ?_, rfl, fun p q hp hq hap hmq => ?_⟩
  · exact decide_eq_true_iff.trans (aluSbc_r_eq_zero_iff ..)
  · exact decide_eq_true_iff.trans (le_aluSbc_r_iff ..)
  · refine (aluSbc_v_iff ..).trans ?_
    rw [getLsbD_seven (aluSbc _ _ _).r]
    rfl
  · have hc : 0 ≤ c ∧ c ≤ 1 := ⟨Int.natCast_nonneg _, Int.ofNat_le.2 (bit_le s.flags.c)⟩
    show BitVec.ofInt 8 (sbcAdjusted s.a m c) = _
    rw [hap, hmq, sbcAdjusted_bcd hp hq hc]
end

section
/-! PROOF. The increments and decrements of a register (43_arithmetic.md R142 to R145): the numbers of the statement as the ALU's
results. -/

namespace Sys2Proof.Machine

theorem ofNat_succ_eq_aluInc (v : Byte) : BitVec.ofNat 8 ((v.toNat + 1) % 256) = aluInc v := ofNat_succ_mod v

theorem ofNat_pred_eq_aluDec (v : Byte) : BitVec.ofNat 8 ((v.toNat + 255) % 256) = aluDec v := by
  rw [← toNat_aluDec, BitVec.ofNat_toNat, BitVec.setWidth_eq]

end Sys2Proof.Machine

open Sys2Proof Sys2Proof.Machine

/-- Settles O40: with the numbers as the ALU's results and Z and N as the ALU sets them, each instruction's run is its row. -/
theorem incrementRegisterResult : Obligations.IncrementRegisterResult := by
  unfold Obligations.IncrementRegisterResult
  simp only [ofNat_succ_eq_aluInc, ofNat_pred_eq_aluDec, ← setZN_eq_zn]
  refine ⟨?inx, ?iny, ?dex, ?dey⟩
  all_goals exact ⟨rfl, fun _ => rfl⟩
end

section
/-! PROOF. Control transfer (44_control_transfer.md R150 to R162): the jumps, the subroutine call and its return, the branches. A
return reads the two slots the call wrote, so it joins the two halves of the return address again. -/

namespace Sys2Proof.Machine

open Sys2Proof.Claims

/-! ## The pointer of the indirect jump -/

theorem ofNat_succ_mod_word (w : Word) : BitVec.ofNat 16 ((w.toNat + 1) % 65536) = w + 1 := by
  apply BitVec.eq_of_toNat_eq
  rw [BitVec.toNat_ofNat, BitVec.toNat_add]
  exact Nat.mod_mod ..

/-- A word read completes below 0xFFFF, and at it under `wrap` (R46, R97). -/
theorem readWord_of_inRange {s : State} {a : Word} (h : a ≠ 0xFFFF ∨ s.params.addrOverflow = .wrap) :
    s.readWord a = .ok (s.wordAt a (a + 1)) := by
  obtain htop | hwrap := h
  · have hlt : a.toNat + 1 < 0x10000 := by bv_omega
    rw [State.readWord, addrAdd_of_lt _ hlt]
    rfl
  · exact readWord_wrap hwrap a

/-! ## The two slots of a pushed address -/

theorem stackAddr_pred_ne (sp : Byte) : stackAddr (sp - 1) ≠ stackAddr sp := by
  rw [ne_eq, stackAddr_inj]
  bv_omega

namespace State

section
variable {s : State} (hs : s.mem.wf = true) (w : Word)
include hs

theorem read_pushWord_lo : (s.pushWord w).read (stackAddr (s.sp - 1)) = loByte w := by
  rw [read_pushWord hs, if_pos rfl]

theorem read_pushWord_hi : (s.pushWord w).read (stackAddr s.sp) = hiByte w := by
  rw [read_pushWord hs, if_neg (stackAddr_pred_ne s.sp), if_pos rfl]

theorem read_pushWord_of_ne {a : Word} (hhi : a ≠ stackAddr s.sp) (hlo : a ≠ stackAddr (s.sp - 1)) :
    (s.pushWord w).read a = s.read a := by
  rw [read_pushWord hs, if_neg hlo.symm, if_neg hhi.symm]

end

end State

/-! ## Call and return -/

/-- JSR pushes the address two past its opcode, that of its own last byte (R152). -/
theorem exec_jsr (s : State) (w : Word) : exec (.jsr w) s =
    .next { past 3 6 s with pc := w, sp := s.sp - 2, mem := (s.pushWord (s.pc + 2)).mem } := by
  have hret : s.pc + 3 - 1 = s.pc + 2 := by bv_omega
  have hsp : s.sp - 1 - 1 = s.sp - 2 := by bv_omega
  rw [← hret, ← hsp]
  rfl

theorem ofNat_pair_succ (hi lo : Byte) :
    BitVec.ofNat 16 (hi.toNat * 256 + lo.toNat + 1) = (hi ++ lo : BitVec (8 + 8)) + 1 := by
  rw [BitVec.ofNat_add, ← toNat_append, BitVec.ofNat_toNat, BitVec.setWidth_eq]
  rfl

/-- RTS joins the bytes of the next two slots, the second the high byte, whatever `word_order` is (R153). -/
theorem exec_rts (s : State) : exec .rts s =
    .next { past 1 6 s with
      sp := s.sp + 2
      pc := (s.read (stackAddr (s.sp + 2)) ++ s.read (stackAddr (s.sp + 1)) : BitVec (8 + 8)) + 1 } := by
  have hsp : s.sp + 1 + 1 = s.sp + 2 := by bv_omega
  rw [← hsp]
  rfl

/-! ## Branches -/

/-- The target is the signed sum of the next address and the displacement, modulo 65536 (R108). -/
theorem branchTarget_eq_ofInt (next : Word) (off : Byte) :
    branchTarget next off = BitVec.ofInt 16 (next.toNat + off.toInt) := by
  rw [BitVec.ofInt_add, BitVec.ofInt_natCast, BitVec.ofNat_toNat, BitVec.setWidth_eq]
  rfl

/-- A taken branch costs one cycle more, and another where the target is on another page (R154). -/
theorem two_add_branchExtra (next target : Word) :
    2 + branchExtra true next target = 3 + bit (decide (next.toNat / 256 ≠ target.toNat / 256)) := by
  rw [branchExtra, if_pos rfl, pageCross_addr, ← Nat.add_assoc]
  rfl

section
variable {i : Instr} (hlength : i.length = 2) (hcost : i.cost false = 2) (off : Byte) (s : State)
include hlength hcost

theorem branch_not_taken : branch i off false s = .next (past 2 2 s) := by
  rw [branch, State.fetched, hlength, hcost]
  rfl

theorem branch_taken : branch i off true s =
    .next { past 2 (2 + branchExtra true (s.pc + 2) (branchTarget (s.pc + 2) off)) s with
      pc := branchTarget (s.pc + 2) off } := by
  rw [branch, State.fetched, hlength, hcost]
  rfl

end

/-- The eight branches are one operation on rows of one length and cost, each with its own flag test (R155 to R162). -/
theorem branches_of_exec {i : Byte → Instr} {opcode : Byte} {taken : Flags → Bool} {test : Flags → Prop}
    (hrow : ∀ off, (i off).opcode = opcode ∧ (i off).length = 2 ∧ (i off).cost false = 2)
    (hexec : ∀ off s, exec (i off) s = branch (i off) off (taken s.flags) s)
    (htest : ∀ f, taken f = true ↔ test f) : Branches i opcode test := by
  intro off
  obtain ⟨hopcode, hlength, hcost⟩ := hrow off
  refine ⟨hopcode, fun s => ⟨fun hfails => ?_, fun hholds => ?_⟩⟩
  · have htaken : taken s.flags = false := Bool.eq_false_iff.2 fun h => hfails ((htest _).1 h)
    rw [hexec, htaken, branch_not_taken hlength hcost]
  · have htaken : taken s.flags = true := (htest _).2 hholds
    rw [hexec, htaken, branch_taken hlength hcost, two_add_branchExtra, branchTarget_eq_ofInt]

end Sys2Proof.Machine

open Sys2Proof Sys2Proof.Machine

/-- Settles O46: the indirect jump reads a word at its pointer, which either completes or is fatal. -/
theorem jumpResult : Obligations.JumpResult := by
  intro s w
  refine ⟨rfl, rfl, rfl, fun hinRange => ?_, fun htop hfault => ?_⟩
  · rw [ofNat_succ_mod_word, ← joinBytes_eq_wordOf]
    exact opJmpInd_next.2 ⟨_, readWord_of_inRange hinRange, rfl⟩
  · exact opJmpInd_fault.2 (readWord_eq_error_iff.2 ⟨hfault, htop, rfl⟩)

/-- Settles O47: the memory after the call is that after a push of the return address. -/
theorem jsrResult : Obligations.JsrResult := by
  intro s w hs
  have hret : (s.pc + 2).toNat = (s.pc.toNat + 2) % 65536 := BitVec.toNat_add ..
  refine ⟨rfl, _, exec_jsr s w, rfl, ?_, ?_, fun a hhi hlo => ?_⟩
  · rw [stackSlot_eq_stackAddr, ← hret, ← toNat_hiByte]
    exact congrArg BitVec.toNat (State.read_pushWord_hi hs _)
  · rw [stackSlot_eq_stackAddr, ← hret, ← toNat_loByte]
    exact congrArg BitVec.toNat (State.read_pushWord_lo hs _)
  · rw [stackSlot_eq_stackAddr] at hhi hlo
    exact State.read_pushWord_of_ne hs _ hhi hlo

/-- Settles O48: the two pulled bytes as one number, with one added. -/
theorem rtsResult : Obligations.RtsResult := by
  refine ⟨rfl, fun s => ?_⟩
  simp only [stackSlot_eq_stackAddr, ofNat_pair_succ]
  exact exec_rts s

/-- Settles O49: the pulled bytes are the halves of the pushed address, whose successor is the next instruction's. -/
theorem subroutineReturns : Obligations.SubroutineReturns := by
  intro s t u w hs hcall husp hhi hlo
  rw [exec_jsr] at hcall
  cases hcall
  rw [stackSlot_eq_stackAddr] at hhi hlo
  have hhi' : u.read (stackAddr s.sp) = hiByte (s.pc + 2) := hhi.trans (State.read_pushWord_hi hs _)
  have hlo' : u.read (stackAddr (s.sp - 1)) = loByte (s.pc + 2) := hlo.trans (State.read_pushWord_lo hs _)
  have hsp1 : u.sp + 1 = s.sp - 1 := by rw [husp]; bv_omega
  have hsp2 : u.sp + 2 = s.sp := by rw [husp]; bv_omega
  refine ⟨_, exec_rts u, ?_, hsp2⟩
  show (u.read (stackAddr (u.sp + 2)) ++ u.read (stackAddr (u.sp + 1)) : BitVec (8 + 8)) + 1 = s.pc + 3
  rw [hsp1, hsp2, hhi', hlo', hiByte_append_loByte]
  bv_omega

/-- Settles O50: each branch is the shared operation on its own flag. -/
theorem branchResult : Obligations.BranchResult := by
  refine ⟨?bcc, ?bcs, ?beq, ?bmi, ?bne, ?bpl, ?bvc, ?bvs⟩
  case bcs | beq | bmi | bvs => exact branches_of_exec (fun _ => ⟨rfl, rfl, rfl⟩) (fun _ _ => rfl) fun _ => Iff.rfl
  case bcc | bne | bpl | bvc =>
    exact branches_of_exec (fun _ => ⟨rfl, rfl, rfl⟩) (fun _ _ => rfl) fun _ => (Bool.not_eq_true' _).to_iff
end

section
/-! PROOF. The loads and the stores (45_load_store.md R170 to R175): a load is a reading form that sets its register, Z and N; a
store changes the state past its row by a write at the place its mode resolves to, which is never the accumulator. -/

namespace Sys2Proof.Machine

open Sys2Proof.Claims

/-! ## Loading -/

/-- A row of a load, whose register alone `load` writes: Z and N are those of the byte as a number (R117). -/
theorem reads_of_load {m : Mnemonic} {b : Byte} {w : Word} {g : Form} (hg : g ∈ readingTable m b w)
    {load : State → Byte → State}
    (hop : ∀ s, operationOf m g.instr g.operand s =
      readOp g.instr g.operand (fun v t => (load t v).setZN v) s)
    (hcharge : ∀ t v n, (load t v).charge n = load (t.charge n) v)
    (hflags : ∀ t v, (load t v).flags = t.flags) :
    g.Reads fun s v t => { load t v with flags := zn v s.flags } := by
  refine reads_of_readOp hg hop (fun _ v t n => ?_) fun s v => ?_
  · show ((load t v).charge n).setZN v = _
    rw [hcharge]
  · rw [State.setZN, hflags, setZN_eq_zn]
    rfl

/-! ## Where a store goes -/

/-- Away from the accumulator a write back changes memory alone. -/
theorem writePlace_eq_with_mem {s : State} {p : Place} (h : p ≠ .acc) (v : Byte) :
    s.writePlace v p = { s with mem := (s.writePlace v p).mem } := by
  rcases p with _ | _ | ⟨_ | _⟩
  case acc => exact absurd rfl h
  all_goals rfl

/-! ## The rows of the store tables -/

/-- The instructions of the rows have the opcode, bytes, cycles and penalty the rows give them (R65, R75). -/
def AgreeWithEntries (rows : List Form) : Prop :=
  rows.map (fun g => (g.instr.opcode, g.instr.length, g.instr.entry.base, g.instr.entry.pen)) =
    rows.map fun g => (g.opcode, g.bytes, g.cycles, g.pen)

theorem AgreeWithEntries.columns {rows : List Form} (h : AgreeWithEntries rows) {g : Form} (hg : g ∈ rows) :
    g.instr.opcode = g.opcode ∧ g.instr.length = g.bytes ∧ g.instr.entry.base = g.cycles ∧
      g.instr.entry.pen = g.pen := by
  simpa only [Prod.mk.injEq] using List.map_inj_left.1 h g hg

/-- Fetching the instruction, writing and charging is a write to the state past the row (R80, R112). -/
theorem charge_writePlace_fetched {g : Form} (hbytes : g.instr.length = g.bytes)
    (hbase : g.instr.entry.base = g.cycles) (hpen : g.instr.entry.pen = g.pen) (s : State) (v : Byte) (p : Place) :
    ((s.fetched g.instr).writePlace v p).charge (g.instr.cost (s.crosses g.operand)) =
      (g.past s).writePlace v p := by
  rw [State.fetched, Instr.cost, hbytes, hbase, hpen]
  rcases p with _ | _ | ⟨_ | _⟩ <;> rfl

/-- A row whose instruction stores `v`: the byte goes to the resolved place, and out of range it is discarded (R97). -/
theorem stores_of_storeOp {rows : List Form} {v : State → Byte} (hrows : AgreeWithEntries rows)
    (hacc : Operand.acc ∉ rows.map Form.operand)
    (hop : ∀ s, rows.map (fun g => exec g.instr s) = rows.map fun g => storeOp g.instr g.operand (v s) s)
    {g : Form} (hg : g ∈ rows) : g.Stores v := by
  obtain ⟨hopcode, hbytes, hbase, hpen⟩ := hrows.columns hg
  refine ⟨hopcode, fun s hs => ?_⟩
  refine ⟨(g.past s).writePlace (v s) (s.resolve g.operand).place, ?_, ?_, fun a ha => ?_, fun n hn c => ?_⟩
  · rw [← charge_writePlace_fetched hbytes hbase hpen]
    exact List.map_inj_left.1 (hop s) g hg
  · have hoperand : g.operand ≠ .acc := fun h => hacc (List.mem_map.2 ⟨g, hg, h⟩)
    exact writePlace_eq_with_mem (resolve_place_ne_acc s hoperand) (v s)
  · rw [ha]
    exact ⟨State.read_write_same (s := g.past s) hs a _, fun c hc => State.read_write_of_ne (s := g.past s) hs hc _⟩
  · rw [hn]
    rfl

end Sys2Proof.Machine

open Sys2Proof Sys2Proof.Machine Sys2Proof.Claims

/-- Settles O41: each load reads its operand into its register, and Z and N are those of the byte as a number. -/
theorem loadResult : Obligations.LoadResult := by
  intro b w
  exact ⟨fun f hf => reads_of_load (m := .lda) (load := fun t v => { t with a := v }) hf (fun _ => rfl)
      (fun _ _ _ => rfl) fun _ _ => rfl,
    fun f hf => reads_of_load (m := .ldx) (load := fun t v => { t with x := v }) hf (fun _ => rfl)
      (fun _ _ _ => rfl) fun _ _ => rfl,
    fun f hf => reads_of_load (m := .ldy) (load := fun t v => { t with y := v }) hf (fun _ => rfl)
      (fun _ _ _ => rfl) fun _ _ => rfl⟩

/-- Settles O42: each row of the three tables is the shared store of its register. -/
theorem storeResult : Obligations.StoreResult := by
  intro b w
  exact ⟨fun f hf => stores_of_storeOp (rows := staForms b w) rfl (by simp [staForms]) (fun _ => rfl) hf,
    fun f hf => stores_of_storeOp (rows := stxForms b w) rfl (by simp [stxForms]) (fun _ => rfl) hf,
    fun f hf => stores_of_storeOp (rows := styForms b w) rfl (by simp [styForms]) (fun _ => rfl) hf⟩
end

section
/-! PROOF. Stack, transfer and flag instructions (47_stack_transfer_flag.md R190 to R207): each is one implied byte whose effect
applies to the state past its row; a push is a write at the slot SP names. -/

namespace Sys2Proof.Machine

open Sys2Proof.Claims

/-- A push's byte is in its slot and the rest of memory as it was (R52). -/
theorem exists_next_of_exec_push {i : Instr} {s : State} {b : Byte} {v : Nat} (hs : s.mem.wf = true) (hv : b.toNat = v)
    (hexec : exec i s = .next { past 1 3 s with sp := s.sp - 1, mem := (s.push b).mem }) :
    ∃ t, exec i s = .next t ∧ t = { past 1 3 s with sp := s.sp - 1, mem := t.mem } ∧
      (t.read (stackSlot s.sp)).toNat = v ∧ ∀ a, a ≠ stackSlot s.sp → t.read a = s.read a := by
  refine ⟨_, hexec, rfl, ?_, fun a ha => ?_⟩
  · rw [stackSlot_eq_stackAddr, ← hv]
    exact congrArg BitVec.toNat (State.read_write_same hs _ b)
  · rw [stackSlot_eq_stackAddr] at ha
    exact State.read_write_of_ne hs ha b

/-- An implied byte's step is its effect on the state past its row: the charge, which comes last, commutes with the effect (R77),
which reads no field that the row moves. -/
theorem implied_of_impliedOp {i : Instr} {opcode : Byte} {cycles : Nat} {effect : State → State → State}
    (hrow : i.opcode = opcode ∧ i.length = 1 ∧ i.cost false = cycles)
    (hexec : ∀ s, exec i s = impliedOp i (fun u => effect u u) s)
    (hcharge : ∀ u n, (effect u u).charge n = effect (u.charge n) (u.charge n))
    (hpast : ∀ s, effect (past 1 cycles s) (past 1 cycles s) = effect s (past 1 cycles s)) :
    Implied i opcode cycles effect := by
  obtain ⟨hopcode, hlength, hcost⟩ := hrow
  refine ⟨hopcode, fun s => ?_⟩
  have hend : (s.fetched i).charge (i.cost false) = past 1 cycles s := by
    rw [State.fetched, hlength, hcost]
    rfl
  rw [hexec, ← hpast, ← hend, ← hcharge]
  exact impliedOp_next.2 rfl

end Sys2Proof.Machine

open Sys2Proof Sys2Proof.Machine

/-- Settles O51: each is a push, PHA of A and PHP of the packed status, whose number is the sum of its bits. -/
theorem pushResult : Obligations.PushResult := by
  intro s hs
  exact ⟨rfl, rfl, exists_next_of_exec_push hs rfl rfl,
    exists_next_of_exec_push hs (toNat_packForPush s.flags) rfl⟩

/-- Settles O52: both read the slot the next SP names; PLA sets Z and N as a load does, PLP unpacks the byte. -/
theorem pullResult : Obligations.PullResult := by
  unfold Obligations.PullResult
  simp only [stackSlot_eq_stackAddr, ← setZN_eq_zn]
  constructor
  all_goals exact implied_of_impliedOp ⟨rfl, rfl, rfl⟩ (fun _ => rfl) (fun _ _ => rfl) fun _ => rfl

/-- Settles O53: with Z and N as the ALU sets them, each transfer's effect is its row's. -/
theorem transferResult : Obligations.TransferResult := by
  unfold Obligations.TransferResult
  simp only [← setZN_eq_zn]
  refine ⟨?tax, ?tay, ?txa, ?tya, ?tsx, ?txs⟩
  all_goals exact implied_of_impliedOp ⟨rfl, rfl, rfl⟩ (fun _ => rfl) (fun _ _ => rfl) fun _ => rfl

/-- Settles O54: each writes its one flag, NOP none, and otherwise only goes past its row. -/
theorem flagInstructionResult : Obligations.FlagInstructionResult := by
  refine ⟨?clc, ?sec, ?cli, ?sei, ?cld, ?sed, ?clv, ?nop⟩
  all_goals exact implied_of_impliedOp ⟨rfl, rfl, rfl⟩ (fun _ => rfl) (fun _ _ => rfl) fun _ => rfl
end

section
/-! PROOF. The system instructions (48_system.md R215, R216): BRK takes the trap, RTI returns from it. The return reads the three
slots the trap wrote, so it unpacks the packed status and joins the two halves of the return address again. -/

namespace Sys2Proof.Machine

open Sys2Proof.Claims

/-! ## The three slots of a trap -/

theorem stackAddr_sub_two_ne (sp : Byte) : stackAddr (sp - 2) ≠ stackAddr sp := by
  rw [ne_eq, stackAddr_inj]
  bv_omega

theorem stackAddr_sub_two_ne_pred (sp : Byte) : stackAddr (sp - 2) ≠ stackAddr (sp - 1) := by
  rw [ne_eq, stackAddr_inj]
  bv_omega

namespace State

section
variable {s : State} (hs : s.mem.wf = true) (ret : Word)
include hs

theorem read_takeTrap_slots (a : Word) : (s.takeTrap ret).read a =
    if stackAddr (s.sp - 2) = a then s.flags.packForPush
    else if stackAddr (s.sp - 1) = a then loByte ret
    else if stackAddr s.sp = a then hiByte ret else s.read a := by
  have hsp : s.sp - 1 - 1 = s.sp - 2 := by bv_omega
  rw [read_takeTrap hs, hsp]

theorem read_takeTrap_status : (s.takeTrap ret).read (stackAddr (s.sp - 2)) = s.flags.packForPush := by
  rw [read_takeTrap_slots hs, if_pos rfl]

theorem read_takeTrap_lo : (s.takeTrap ret).read (stackAddr (s.sp - 1)) = loByte ret := by
  rw [read_takeTrap_slots hs, if_neg (stackAddr_sub_two_ne_pred s.sp), if_pos rfl]

theorem read_takeTrap_hi : (s.takeTrap ret).read (stackAddr s.sp) = hiByte ret := by
  rw [read_takeTrap_slots hs, if_neg (stackAddr_sub_two_ne s.sp), if_neg (stackAddr_pred_ne s.sp), if_pos rfl]

theorem read_takeTrap_of_ne {a : Word} (hhi : a ≠ stackAddr s.sp) (hlo : a ≠ stackAddr (s.sp - 1))
    (hstatus : a ≠ stackAddr (s.sp - 2)) : (s.takeTrap ret).read a = s.read a := by
  rw [read_takeTrap_slots hs, if_neg hstatus.symm, if_neg hlo.symm, if_neg hhi.symm]

end

end State

/-! ## The trap and the return from it -/

/-- BRK pushes the address two past its opcode, that after its padding byte (R215). -/
theorem exec_brk (s : State) : exec .brk s =
    .next { past 1 7 s with
      sp := s.sp - 3
      mem := (s.takeTrap (s.pc + 2)).mem
      flags := { s.flags with i := true }
      pc := (s.takeTrap (s.pc + 2)).pc } := by
  have hret : s.pc + 1 + 1 = s.pc + 2 := by bv_omega
  have hsp : s.sp - 1 - 1 - 1 = s.sp - 3 := by bv_omega
  rw [← hret, ← hsp]
  rfl

/-- RTI unpacks the byte of the next slot and joins those of the two after it, whatever `word_order` is (R216). -/
theorem exec_rti (s : State) : exec .rti s =
    .next { past 1 6 s with
      sp := s.sp + 3
      flags := s.flags.unpack (s.read (stackAddr (s.sp + 1)))
      pc := (s.read (stackAddr (s.sp + 3)) ++ s.read (stackAddr (s.sp + 2)) : BitVec (8 + 8)) } := by
  have hsp2 : s.sp + 1 + 1 = s.sp + 2 := by bv_omega
  have hsp3 : s.sp + 2 + 1 = s.sp + 3 := by bv_omega
  rw [← hsp3, ← hsp2]
  rfl

theorem ofNat_pair (hi lo : Byte) :
    BitVec.ofNat 16 (hi.toNat * 256 + lo.toNat) = (hi ++ lo : BitVec (8 + 8)) :=
  (joinBytes_eq_wordOf .little lo hi).symm

end Sys2Proof.Machine

open Sys2Proof Sys2Proof.Machine

/-- Settles O55: memory after BRK is that after the trap, whose pushes leave the vector as it was. -/
theorem brkEntersTheTrap : Obligations.BrkEntersTheTrap := by
  intro s hs
  have hret : (s.pc + 2).toNat = (s.pc.toNat + 2) % 65536 := BitVec.toNat_add ..
  simp only [stackSlot_eq_stackAddr]
  refine ⟨rfl, _, exec_brk s, ?_, ?_, ?_, ?_, fun a hhi hlo hstatus => ?_⟩
  · rw [State.takeTrap_pc hs, ← joinBytes_eq_wordOf]
    rfl
  · rw [← hret, ← toNat_hiByte]
    exact congrArg BitVec.toNat (State.read_takeTrap_hi hs _)
  · rw [← hret, ← toNat_loByte]
    exact congrArg BitVec.toNat (State.read_takeTrap_lo hs _)
  · exact (congrArg BitVec.toNat (State.read_takeTrap_status hs _)).trans (toNat_packForPush s.flags)
  · exact State.read_takeTrap_of_ne hs _ hhi hlo hstatus

/-- Settles O56: the first pulled byte unpacked, the other two as one number. -/
theorem rtiResult : Obligations.RtiResult := by
  refine ⟨rfl, fun s => ?_⟩
  simp only [stackSlot_eq_stackAddr, ofNat_pair]
  exact exec_rti s

/-- Settles O57: the pulled bytes are the packed status, which unpacks to its flags, and the halves of the return address. -/
theorem trapReturns : Obligations.TrapReturns := by
  intro s t u hs htrap husp hhi hlo hstatus
  rw [exec_brk] at htrap
  cases htrap
  rw [stackSlot_eq_stackAddr] at hhi hlo hstatus
  have hhi' : u.read (stackAddr s.sp) = hiByte (s.pc + 2) := hhi.trans (State.read_takeTrap_hi hs _)
  have hlo' : u.read (stackAddr (s.sp - 1)) = loByte (s.pc + 2) := hlo.trans (State.read_takeTrap_lo hs _)
  have hstatus' : u.read (stackAddr (s.sp - 2)) = s.flags.packForPush :=
    hstatus.trans (State.read_takeTrap_status hs _)
  have hsp1 : u.sp + 1 = s.sp - 2 := by rw [husp]; bv_omega
  have hsp2 : u.sp + 2 = s.sp - 1 := by rw [husp]; bv_omega
  have hsp3 : u.sp + 3 = s.sp := by rw [husp]; bv_omega
  refine ⟨_, exec_rti u, ?_, hsp3, ?_⟩
  · show (u.read (stackAddr (u.sp + 3)) ++ u.read (stackAddr (u.sp + 2)) : BitVec (8 + 8)) = s.pc + 2
    rw [hsp3, hsp2, hhi', hlo', hiByte_append_loByte]
  · show u.flags.unpack (u.read (stackAddr (u.sp + 1))) = _
    rw [hsp1, hstatus', unpack_packForPush]
end

section
/-! PROOF. The exception model (60_exceptions.md R224, R230). A change of I passes through every instruction that neither reads nor
writes it, and is undone by those that write it. A latched fatal decides each operation before the rest of the state is looked at. -/

namespace Sys2Proof.Machine

open Sys2Proof.Claims

/-! ## The I flag -/

/-- Flags changed to hold the given value of I. -/
def setI (v : Bool) (f : Flags) : Flags := { f with i := v }

theorem withI_eq_mapFlags (v : Bool) : withI v = mapFlags (setI v) := rfl

theorem onNext_id (o : Outcome) : onNext (fun t => t) o = o := by
  cases o <;> rfl

/-- The four instructions that write I without reading it give it the same value from either (R26). -/
theorem exec_setI_of_writer {i : Instr} (h : i.mnemonic ∈ [Mnemonic.sei, .cli, .plp, .rti]) (s : State) (v : Bool) :
    exec i (mapFlags (setI v) s) = exec i s := by
  rw [exec_eq_performBy, exec_eq_performBy, performBy, performBy]
  cases hm : i.mnemonic <;> rw [hm] at h
  case sei | cli | plp | rti => exact impliedOp_mapFlags (k := id) fun _ => rfl
  all_goals exact absurd h (by decide)

/-- A change of I passes through the instructions left, by the shape of their step, as a change of B does through all (`exec_setB`). -/
theorem exec_setI {i : Instr} (hread : i.mnemonic ∉ [Mnemonic.php, .brk])
    (hwrite : i.mnemonic ∉ [Mnemonic.sei, .cli, .plp, .rti]) (s : State) (v : Bool) :
    exec i (mapFlags (setI v) s) = onNext (mapFlags (setI v)) (exec i s) := by
  rw [exec_eq_performBy, exec_eq_performBy, performBy, performBy]
  cases hm : i.mnemonic <;> rw [hm] at hread hwrite
  case php | brk => exact absurd hread (by decide)
  case sei | cli | plp | rti => exact absurd hwrite (by decide)
  case adc =>
    refine decimalCheck_mapFlags rfl (readOp_mapFlags fun m u => ?_)
    rw [adcApply, adcApply, show (mapFlags (setI v) u).decimalOn = u.decimalOn from rfl]
    split <;> rfl
  case sbc => exact decimalCheck_mapFlags rfl (readOp_mapFlags fun _ _ => rfl)
  case cmp | cpx | cpy | lda | ldx | ldy | bit => exact readOp_mapFlags fun _ _ => rfl
  case and | ora | eor => exact logicOp_mapFlags fun _ _ => rfl
  case sta | stx | sty => exact storeOp_mapFlags
  case inc | dec => exact modifyOp_mapFlags fun _ _ => rfl
  case asl | lsr | rol | ror => exact shiftOp_mapFlags rfl fun _ _ _ => rfl
  case bcc | bcs | beq | bmi | bne | bpl | bvc | bvs => exact branch_mapFlags
  case jmp => exact opJmp_mapFlags
  all_goals exact impliedOp_mapFlags fun _ => rfl

/-! ## After a fatal -/

section
variable {s : State} {f : Fault} (hf : s.fatal = some f)
include hf

theorem stopped_of_fatal : s.stopped = some (.fault f) := by rw [State.stopped, hf]

theorem step_of_fatal : step s = .fault f := by rw [step, stopped_of_fatal hf]

theorem hostMayAct_of_fatal : s.hostMayAct = false := by simp [State.hostMayAct, hf]

end

end Sys2Proof.Machine

open Sys2Proof Sys2Proof.Machine

/-- Settles O22: the writers of I undo its change, and it passes through every other instruction but its two readers. -/
theorem interruptDisableMasksNothing : Obligations.InterruptDisableMasksNothing := by
  intro i s v hread
  rw [withI_eq_mapFlags]
  by_cases hwrite : i.mnemonic ∈ [Mnemonic.sei, .cli, .plp, .rti]
  · simp only [if_pos hwrite]
    rw [exec_setI_of_writer hwrite, onNext_id]
  · simp only [if_neg hwrite]
    exact exec_setI hread hwrite s v

/-- Settles O10: the latch alone decides the step, the reset and the execute call, and takes every move from the host. -/
theorem nothingFollowsAFatal : Obligations.NothingFollowsAFatal := by
  intro s f hf
  have hlatched : s.fatal ≠ none := Option.ne_none_iff_exists'.2 ⟨f, hf⟩
  exact ⟨step_of_fatal hf, State.resetOp_of_fatal hlatched, execute_of_fatal hf, no_host_move (hostMayAct_of_fatal hf)⟩
end
